-- ==== Sys2Proof/Word.lean ====
section
/-! DEFINITION. The byte, the one word of the unit (spec 00_scope R10 to R12). -/

namespace Sys2Proof

/-- A byte: an unsigned 8-bit value, bit 0 least significant (R10, R11). -/
abbrev Byte := BitVec 8

end Sys2Proof
end

