-- ==== Sys2Proof/Config.lean ====
section
/-! DEFINITION. What an instance of the unit fixes (spec 00_scope R7, R8; 92_eei_decisions "Open parameters"), and the
free inputs of the environment (43_sequencer R129). -/

namespace Sys2Proof

/-- The parameters of one instance, with the defaults of R7 and R8. `localId` and `hasHb` have none ("per node"). The
first four are the read-only configuration registers of R26. -/
structure Config where
  /-- `LOCAL_ID`, legal values 1 to 7. -/
  localId : Byte
  /-- `HAS_HB`: variant 2, the Heartbeat Originator is present (R3). -/
  hasHb : Bool
  /-- `COLLECTOR_ID`. -/
  collectorId : Byte := 0x07#8
  /-- `HB_FUNC`. -/
  hbFunc : Byte := 0x01#8
  /-- `HB_INTERVAL`, an unsigned count of `TIME_W` bits. -/
  hbInterval : Nat := 5000
  /-- `SEQ_W`, the width of `SEQ`. -/
  seqW : Nat := 8
  /-- `TIME_W`, the width of `NOW` and `LAST`. -/
  timeW : Nat := 32
  /-- `LAST_RESET`. -/
  lastReset : Nat := 0
  /-- `RXQ_RESET`. -/
  rxqReset : List Byte := []
deriving DecidableEq, Repr

/-- The configuration `State.reset` takes: node 3, variant 2, every other parameter at its default.
DESIGN CHOICE (log 1): the spec gives `LOCAL_ID` and `HAS_HB` no default. -/
def Config.nominal : Config := { localId := 0x03#8, hasHb := true }

/-- Free input (R129 (a), log 5): the bytes the environment appends before the n-th iteration that no script names. -/
opaque Config.freeRx : Nat → List Byte

/-- Free input (R129 (b), log 5): the time sample of the n-th iteration that no script names. -/
opaque Config.freeNow : Nat → Nat

end Sys2Proof
end

