-- ==== Sys2Proof/Syntax.lean ====
section
/-! DEFINITION. The frame (spec 30_encoding R60) and the operations and outcomes of the unit, one constructor per row of
spec/opcode_table.json (R71, R72). -/

namespace Sys2Proof

/-- The one format: eight bytes, positionally typed (R60). The fields stand in offset order, 0 to 7; the same eight
bytes are the registers `F[0]` to `F[7]` (10_state R21). -/
structure Frame where
  /-- offset 0 -/
  id : Byte
  /-- offset 1 -/
  src : Byte
  /-- offset 2 -/
  dst : Byte
  /-- offset 3 -/
  func : Byte
  /-- offset 4, the first DATA byte -/
  data0 : Byte
  /-- offset 5, the second DATA byte -/
  data1 : Byte
  /-- offset 6 -/
  path : Byte
  /-- offset 7 -/
  chk : Byte
deriving DecidableEq, Repr

/-- The 21 operations of R71 and the six outcomes of R72 and R156. A constructor carries the operands its rule names that
are not registers or streams of the unit; a frame-selected outcome carries the frame that selects it. -/
inductive Instr where
  /-- R80 `CRC8.ROUND` -/
  | crc8Round
  /-- R81 `CRC8.BYTE(b)` -/
  | crc8Byte (b : Byte)
  /-- R82 `CRC8.BUF(l)` -/
  | crc8Buf (l : List Byte)
  /-- R83 `CRC8.FRAME` -/
  | crc8Frame
  /-- R90 `RX.POLL` -/
  | rxPoll
  /-- R91 `RX.ASSEMBLE` -/
  | rxAssemble
  /-- R92 `CHK.VERIFY` -/
  | chkVerify
  /-- R93 `DST.MATCH` -/
  | dstMatch
  /-- R94 `PATH.STAMP` -/
  | pathStamp
  /-- R95 `SRC.STAMP` -/
  | srcStamp
  /-- R96 `CHK.STAMP` -/
  | chkStamp
  /-- R97 `TX.FWD` -/
  | txFwd
  /-- R98 `DIAG.FWD` -/
  | diagFwd
  /-- R99 `RELAY` -/
  | relay
  /-- R72, R90 `RELAY.IDLE` -/
  | relayIdle
  /-- R72, R141 `RELAY.DROP_CHK` -/
  | relayDropChk (f : Frame)
  /-- R72, R142 `RELAY.DROP_DST` -/
  | relayDropDst (f : Frame)
  /-- R72, R99 `RELAY.FWD` -/
  | relayFwd (f : Frame)
  /-- R111 `HB.CHECK` -/
  | hbCheck
  /-- R112 `HB.BUILD` -/
  | hbBuild
  /-- R113 `HB.TX` -/
  | hbTx
  /-- R114 `HB.ADVANCE`, with the sample `t` that `HB.CHECK` took -/
  | hbAdvance (t : Nat)
  /-- R115 `HB.DIAG` -/
  | hbDiag
  /-- R116 `HEARTBEAT` -/
  | heartbeat
  /-- R111, R156 `HB.IDLE` -/
  | hbIdle
  /-- R116, R156 `HB.EMIT` -/
  | hbEmit
  /-- R125 `LOOP.ITER` -/
  | loopIter
deriving DecidableEq, Repr

end Sys2Proof
end

