-- ==== Sys2Proof/Machine/Checksum.lean ====
section
/-! DEFINITION. The CRC-8 as a pure function (spec 40_crc8 R80 to R83; R84 allows it), and the byte lists of a frame
(30_encoding R60, 20_memory R42). -/

namespace Sys2Proof

/-- One round (R80): the test is on bit 7 before the shift. -/
def crcRound (a : Byte) : Byte :=
  if a.getLsbD 7 then (a <<< 1) ^^^ 0x07#8 else a <<< 1

/-- `n` rounds. -/
def crcRounds : Nat → Byte → Byte
  | 0, a => a
  | n + 1, a => crcRounds n (crcRound a)

/-- One byte (R81): XOR it in, then eight rounds. -/
def crcByte (a b : Byte) : Byte := crcRounds 8 (a ^^^ b)

/-- The bytes of a list in order, from the accumulator `a`. -/
def crcFrom (a : Byte) : List Byte → Byte
  | [] => a
  | b :: l => crcFrom (crcByte a b) l

/-- `CRC8.BUF` (R82), for every length (D25). -/
def crcBuf (l : List Byte) : Byte := crcFrom 0x00#8 l

/-- Offsets 0 to 6. -/
def Frame.header (f : Frame) : List Byte := [f.id, f.src, f.dst, f.func, f.data0, f.data1, f.path]

/-- Offsets 0 to 7 in wire order (R42). -/
def Frame.toBytes (f : Frame) : List Byte := [f.id, f.src, f.dst, f.func, f.data0, f.data1, f.path, f.chk]

/-- `CRC8.FRAME` (R83): offset 7 is no operand. -/
def Frame.crc (f : Frame) : Byte := crcBuf f.header

/-- A valid frame (R14): offset 7 is the checksum of offsets 0 to 6. -/
def Frame.valid (f : Frame) : Bool := f.chk == f.crc

/-- The frame with offset 7 restamped. -/
def Frame.sealed (f : Frame) : Frame := { f with chk := f.crc }

end Sys2Proof
end

