-- ==== Sys2Proof/WellFormed.lean ====
section
/-! DEFINITION. Well-formed configurations (spec 70_reset_and_hazards R163 (a), 30_encoding R68) and well-formed
operations and outcomes. -/

namespace Sys2Proof

/-- The configuration check (R163 (a)): `LOCAL_ID` in 1 to 7, `SEQ_W` at least 8, 2^`TIME_W` greater than `HB_INTERVAL`;
and `LAST_RESET`, the value of a `TIME_W`-bit register, fits it (DEDUCED, log 9). -/
def Config.wf (c : Config) : Bool :=
  decide (1 ≤ c.localId.toNat) && decide (c.localId.toNat ≤ 7) && decide (8 ≤ c.seqW) &&
    decide (c.hbInterval < 2 ^ c.timeW) && decide (c.lastReset < 2 ^ c.timeW)

/-- An operation or outcome that an instance with configuration `c` can have: the operations of 42_heartbeat.md need
variant 2 (R3), a time sample fits `TIME_W` bits (R32), and a frame-selected outcome carries a frame that meets its
condition in R72. -/
def Instr.wf (c : Config) (i : Instr) : Bool :=
  c.wf &&
    match i with
    | .crc8Round => true
    | .crc8Byte _ => true
    | .crc8Buf _ => true
    | .crc8Frame => true
    | .rxPoll => true
    | .rxAssemble => true
    | .chkVerify => true
    | .dstMatch => true
    | .pathStamp => true
    | .srcStamp => true
    | .chkStamp => true
    | .txFwd => true
    | .diagFwd => true
    | .relay => true
    | .relayIdle => true
    | .relayDropChk f => !f.valid
    | .relayDropDst f => f.valid && f.dst != c.localId
    | .relayFwd f => f.valid && f.dst == c.localId
    | .hbCheck => c.hasHb
    | .hbBuild => c.hasHb
    | .hbTx => c.hasHb
    | .hbAdvance t => c.hasHb && decide (t < 2 ^ c.timeW)
    | .hbDiag => c.hasHb
    | .heartbeat => c.hasHb
    | .hbIdle => c.hasHb
    | .hbEmit => c.hasHb
    | .loopIter => true

end Sys2Proof
end

