-- ==== Sys2Proof/Machine/Operands.lean ====
section
/-! DEFINITION. Operand assembly (spec 30_encoding R69, R70) and the arithmetic of the heartbeat (40_crc8 R87). -/

namespace Sys2Proof.Machine

/-- The PATH stamp mask, trunc8(1 << (LOCAL_ID - 1)) (R69). -/
def pathMask (localId : Byte) : Byte := BitVec.ofNat 8 (1 <<< (localId.toNat - 1))

/-- The frame `RELAY` sends for a received frame `f` (R99): PATH marked, SRC overwritten, CHK restamped. -/
def stamped (c : Config) (f : Frame) : Frame :=
  Frame.sealed { f with path := f.path ||| pathMask c.localId, src := c.localId }

/-- The low byte of the sequence counter, `SEQ[7:0]` (R112). -/
def idByte (seq : Nat) : Byte := BitVec.ofNat 8 seq

/-- The heartbeat frame (R70, R112). -/
def heartbeatFrame (c : Config) (seq : Nat) : Frame :=
  Frame.sealed ⟨idByte seq, c.localId, c.collectorId, c.hbFunc, 0x00#8, 0x00#8, 0x00#8, 0x00#8⟩

/-- Elapsed time, (t - last) mod 2^w (R111): the non-negative remainder. -/
def elapsed (w t last : Nat) : Nat := (((t : Int) - (last : Int)) % ((2 ^ w : Nat) : Int)).toNat

/-- (seq + 1) mod 2^w (R114): after 2^w - 1 comes 0. -/
def nextSeq (w seq : Nat) : Nat := (seq + 1) % 2 ^ w

end Sys2Proof.Machine
end

