-- ==== Sys2Proof/Machine/State.lean ====
section
/-! DEFINITION. The state of the unit and of its environment (spec 10_state R20 to R36), the diagnostic records (30_encoding
R76), the environment's events (R75, R129), the reasons a step can stop, and reset (70_reset_and_hazards R160). -/

namespace Sys2Proof.Machine

/-- The four record kinds (R76). Only `forwarded` has a payload, the eight bytes transmitted. -/
inductive DiagRecord where
  | forwarded (f : Frame)
  | checksumMismatch
  | notAddressedHere
  | heartbeatSent
deriving DecidableEq, Repr

/-- What the environment has in store, the event lines of the script notation (R75): the reset event, bytes appended to
the inbound stream, one iteration in which `Now()` returns `t` (a variant-1 unit does not look at `t`). -/
inductive EnvEvent where
  | reset
  | rx (bytes : List Byte)
  | iter (t : Nat)
deriving DecidableEq, Repr

/-- The machine: the unit's registers, the streams, and what the environment has in store. -/
structure State where
  /-- The configuration of the instance: `LOCAL_ID`, `COLLECTOR_ID`, `HB_FUNC`, `HB_INTERVAL` (R26) and the parameters of
  R8. Nothing writes it (R52). -/
  cfg : Config
  /-- The frame buffer `F[0]` to `F[7]` (R20, R21). -/
  f : Frame
  /-- The accumulator `ACC` (R23). -/
  acc : Byte
  /-- `SEQ`, below 2^`SEQ_W` (R24). Variant 1 has none; the field is then inert (log 10). -/
  seq : Nat
  /-- `LAST`, below 2^`TIME_W` (R25). Variant 1 has none; the field is then inert (log 10). -/
  last : Nat
  /-- `NOW`, the sample `Now()` returns, below 2^`TIME_W` (R32). -/
  now : Nat
  /-- `RXQ`, oldest byte first (R29). -/
  rxq : List Byte
  /-- `TXLOG`, the write units, oldest first (R30). -/
  txlog : List (List Byte)
  /-- `DIAGLOG`, oldest first (R31). -/
  diaglog : List DiagRecord
  /-- The model's own: the events the environment has in store, next one first (R75, R129; log 5). -/
  script : List EnvEvent
  /-- The model's own: how many free inputs have been drawn once the script was used up (log 5). -/
  draws : Nat
deriving DecidableEq, Repr

/-- Faults. -/
inductive Fault where
  /-- Raised by `RX.ASSEMBLE` run on its own with fewer than eight bytes waiting: `RxPop()` is "called only when `RXQ` is
  not empty" (R13). Safe (log 7); no step of the machine reaches it. -/
  | rxPopEmpty
deriving DecidableEq, Repr

/-- Refusals. -/
inductive Refusal where
  /-- Raised by no meaning: for an arm of `exec` without a meaning; there is none. Safe. -/
  | notModelled (mnemonic : String)
  /-- Raised by every operation and by the step: "a configuration with `LOCAL_ID` outside 1 to 7 is ill-formed and the
  model refuses it" (R68, R163 (a)). Safe (log 9). -/
  | illFormedConfig
  /-- Raised by the heartbeat operations in variant 1, where "every rule of 42_heartbeat.md" is "absent" (R3, R119).
  Safe (log 10). -/
  | heartbeatAbsent
  /-- Raised by an outcome row in a state where its condition is false, so that it is not how the operation ends (R72,
  R156). Safe (log 8). -/
  | outcomeNotSelected
deriving DecidableEq, Repr

/-- The frame buffer after reset. DESIGN CHOICE (log 2): "unspecified; never read before written" (R36). -/
def Frame.cleared : Frame := ⟨0#8, 0#8, 0#8, 0#8, 0#8, 0#8, 0#8, 0#8⟩

/-- The state reset creates in an instance with configuration `c` (R36, R160). `f`, `acc`, `now`, `script` and `draws`:
DESIGN CHOICE (logs 2, 3, 4, 5). -/
def State.resetWith (c : Config) : State where
  cfg := c
  f := Frame.cleared
  acc := 0#8
  seq := 1
  last := c.lastReset
  now := 0
  rxq := c.rxqReset
  txlog := []
  diaglog := []
  script := []
  draws := 0

/-- The machine right after reset, in the nominal configuration (log 1). -/
def State.reset : State := State.resetWith Config.nominal

end Sys2Proof.Machine
end

