-- ==== Sys2Proof/Machine/Ops.lean ====
section
/-! DEFINITION. The named operations over the registers and streams: the primitives of spec 00_scope R13, the flow of control
inside `RELAY` and `HEARTBEAT` (43_sequencer R131), the drop sequence (60_exceptions R144) that both error kinds share, and
the checks every meaning makes. There is no return from an error (R145): the drop sequence ends `RELAY` and saves nothing. -/

namespace Sys2Proof.Machine

/-! ### Registers -/

/-- `F <- f`. -/
def setFrame (f : Frame) (s : State) : State := { s with f := f }

/-- `ACC <- a`. -/
def setAcc (a : Byte) (s : State) : State := { s with acc := a }

/-- `SEQ <- n`, `LAST <- t` (R114). -/
def setOriginator (n t : Nat) (s : State) : State := { s with seq := n, last := t }

/-! ### The primitives of R13 -/

/-- `RxAvail()`: no side effect. -/
def rxAvail (s : State) : Nat := s.rxq.length

/-- The inbound stream after bytes were popped from its head. -/
def setRxq (l : List Byte) (s : State) : State := { s with rxq := l }

/-- `TxWrite(l)`: one write unit; it always succeeds (R51). -/
def txWrite (l : List Byte) (s : State) : State := { s with txlog := s.txlog ++ [l] }

/-- `Diag(r)`. -/
def diag (r : DiagRecord) (s : State) : State := { s with diaglog := s.diaglog ++ [r] }

/-- `Now()`: the sample the environment has supplied for this iteration; no side effect. -/
def nowSample (s : State) : Nat := s.now

/-! ### Records and error kinds -/

/-- The codes of the record kinds (R76). -/
def DiagRecord.code : DiagRecord → Nat
  | .forwarded _ => 0
  | .checksumMismatch => 1
  | .notAddressedHere => 2
  | .heartbeatSent => 3

/-- The two error kinds, and no other (R140). -/
inductive ErrorKind where
  | checksumMismatch
  | notAddressedHere
deriving DecidableEq, Repr

/-- The record of an error (R141, R142). -/
def ErrorKind.record : ErrorKind → DiagRecord
  | .checksumMismatch => .checksumMismatch
  | .notAddressedHere => .notAddressedHere

/-- The cause code of an error: the code of its record (R140). -/
def ErrorKind.cause (e : ErrorKind) : Nat := e.record.code

/-! ### How an operation ends (R156) -/

/-- The four outcomes of `RELAY` (R72). -/
inductive RelayOutcome where
  | idle
  | dropChk
  | dropDst
  | fwd
deriving DecidableEq, Repr

/-- The two outcomes of `HEARTBEAT` (R156). -/
inductive HbOutcome where
  | idle
  | emit
deriving DecidableEq, Repr

/-- The outcome an error ends `RELAY` with (R141, R142). -/
def ErrorKind.outcome : ErrorKind → RelayOutcome
  | .checksumMismatch => .dropChk
  | .notAddressedHere => .dropDst

/-- Where a step of `RELAY` or `HEARTBEAT` leaves control: at the next step, at the end of the operation with an outcome,
or stopped by a fault. -/
inductive Flow (ω : Type) where
  | go (s : State)
  | ended (o : ω) (s : State)
  | fault (r : Fault)
deriving DecidableEq, Repr

/-- One step after another: an ended operation stays ended. -/
def Flow.andThen {ω : Type} (m : Flow ω) (k : State → Flow ω) : Flow ω :=
  match m with
  | .go s => k s
  | .ended o s => .ended o s
  | .fault r => .fault r

/-- The state part of a step, as `exec` answers it. -/
def Flow.answer {ω : Type} (m : Flow ω) : Host.Outcome State Fault Refusal :=
  match m with
  | .go s => .next s
  | .ended _ s => .next s
  | .fault r => .fault r

/-- RAISING AN ERROR, the drop sequence of R144: one record of the error's kind, nothing transmitted, nothing saved, the
bytes taken stay taken, `F` keeps the dropped frame, `RELAY` ends. -/
def raise (e : ErrorKind) (s : State) : Flow RelayOutcome := .ended e.outcome (diag e.record s)

/-! ### The checks of every meaning -/

/-- The unit's rules hold in a well-formed configuration only (R68, R163 (a)). -/
def onUnit (s : State) (k : State → Host.Outcome State Fault Refusal) : Host.Outcome State Fault Refusal :=
  if s.cfg.wf then k s else .refused .illFormedConfig

/-- The rules of the Heartbeat Originator hold in variant 2 only (R3). -/
def onOriginator (s : State) (k : State → Host.Outcome State Fault Refusal) : Host.Outcome State Fault Refusal :=
  onUnit s fun s => if s.cfg.hasHb then k s else .refused .heartbeatAbsent

/-- An outcome row has its effect where its condition holds (R72, R156). -/
def onOutcome (b : Bool) (s : State) : Host.Outcome State Fault Refusal :=
  if b then .next s else .refused .outcomeNotSelected

/-- Run `k` on the state an operation answers. -/
def afterwards (m : Host.Outcome State Fault Refusal) (k : State → Host.Outcome State Fault Refusal) :
    Host.Outcome State Fault Refusal :=
  match m with
  | .next s => k s
  | .fault r => .fault r
  | .refused r => .refused r

end Sys2Proof.Machine
end

