-- ==== Sys2Proof/Machine/Flags.lean ====
section
/-! DEFINITION. The four conditions of spec 10_state R28. The unit stores no flags: each is computed and used at once. -/

namespace Sys2Proof.Machine

/-- `rx_ready`: `RxAvail() >= 8` (R90). -/
def rxReady (s : State) : Bool := decide (8 ≤ rxAvail s)

/-- `chk_ok`: the checksum in `ACC`, just computed over `F[0..6]`, equals `F[7]` (R92). -/
def chkOk (s : State) : Bool := s.acc == s.f.chk

/-- `dst_match`: `F[2] == LOCAL_ID`, all eight bits (R93). -/
def dstMatches (s : State) : Bool := s.f.dst == s.cfg.localId

/-- `hb_due` at the sample `t`: `(t - LAST) mod 2^TIME_W >= HB_INTERVAL`, unsigned (R111). -/
def hbDue (t : Nat) (s : State) : Bool := decide (s.cfg.hbInterval ≤ elapsed s.cfg.timeW t s.last)

end Sys2Proof.Machine
end

