-- ==== Sys2Proof/Machine/Codec.lean ====
section
/-! DEFINITION. The Frame Codec (spec 40_crc8 R80 to R83): the four operations on `ACC`, and their meanings. -/

namespace Sys2Proof.Machine

/-- R80. -/
def crc8Round (s : State) : State := setAcc (crcRound s.acc) s

/-- R81. -/
def crc8Byte (b : Byte) (s : State) : State := setAcc (crcByte s.acc b) s

/-- R82: the result is `ACC`. -/
def crc8Buf (l : List Byte) (s : State) : State := setAcc (crcBuf l) s

/-- R83: `CRC8.BUF` of `F[0..6]`. -/
def crc8Frame (s : State) : State := crc8Buf s.f.header s

/-- `CRC8.ROUND` (R80). -/
def execCrc8Round (s : State) : Host.Outcome State Fault Refusal := onUnit s fun s => .next (crc8Round s)

/-- `CRC8.BYTE` (R81). -/
def execCrc8Byte (b : Byte) (s : State) : Host.Outcome State Fault Refusal := onUnit s fun s => .next (crc8Byte b s)

/-- `CRC8.BUF` (R82). -/
def execCrc8Buf (l : List Byte) (s : State) : Host.Outcome State Fault Refusal := onUnit s fun s => .next (crc8Buf l s)

/-- `CRC8.FRAME` (R83). -/
def execCrc8Frame (s : State) : Host.Outcome State Fault Refusal := onUnit s fun s => .next (crc8Frame s)

end Sys2Proof.Machine
end

