-- ==== Sys2Proof/Machine/Heartbeat.lean ====
section
/-! DEFINITION. The Heartbeat Originator (spec 42_heartbeat R110 to R116): its five steps, `HEARTBEAT`, the two outcomes (60_exceptions
R156), and their meanings. -/

namespace Sys2Proof.Machine

/-! ### The steps -/

/-- R111, at the sample `t`: not due ends `HEARTBEAT` with nothing changed. -/
def hbCheck (t : Nat) (s : State) : Flow HbOutcome := if hbDue t s then .go s else .ended .idle s

/-- R112: the header from `SEQ` and the constants, then `F[7] <- CRC8.FRAME`. PATH is zero, not the node's own mask. -/
def hbBuild (s : State) : Flow HbOutcome :=
  let s := crc8Frame (setFrame { s.f with
    id := idByte s.seq, src := s.cfg.localId, dst := s.cfg.collectorId, func := s.cfg.hbFunc,
    data0 := 0x00#8, data1 := 0x00#8, path := 0x00#8 } s)
  .go (setFrame { s.f with chk := s.acc } s)

/-- R113: two write units, offsets 0 to 6 and then CHK. -/
def hbTx (s : State) : Flow HbOutcome := .go (txWrite [s.f.chk] (txWrite s.f.header s))

/-- R114: `t` is a `TIME_W`-bit sample. -/
def hbAdvance (t : Nat) (s : State) : Flow HbOutcome :=
  .go (setOriginator (nextSeq s.cfg.seqW s.seq) (t % 2 ^ s.cfg.timeW) s)

/-- R115. -/
def hbDiag (s : State) : Flow HbOutcome := .go (diag .heartbeatSent s)

/-! ### The whole operation -/

/-- `HEARTBEAT` (R116): one sample `t`, taken by `HB.CHECK` and stored by `HB.ADVANCE`. -/
def heartbeat (s : State) : Flow HbOutcome :=
  let t := nowSample s
  (hbCheck t s).andThen fun s => (hbBuild s).andThen fun s => (hbTx s).andThen fun s => (hbAdvance t s).andThen fun s =>
    (hbDiag s).andThen fun s => .ended .emit s

/-- An emitted heartbeat, the one-function form of R116. -/
def emitted (t : Nat) (s : State) : State :=
  let g := heartbeatFrame s.cfg s.seq
  diag .heartbeatSent (setOriginator (nextSeq s.cfg.seqW s.seq) (t % 2 ^ s.cfg.timeW)
    (txWrite [g.chk] (txWrite g.header (setAcc g.chk (setFrame g s)))))

/-! ### Meanings -/

/-- `HB.CHECK` (R111). Its condition is used by `HEARTBEAT` and kept nowhere (R28). -/
def execHbCheck (s : State) : Host.Outcome State Fault Refusal := onOriginator s fun s => (hbCheck (nowSample s) s).answer

/-- `HB.BUILD` (R112). -/
def execHbBuild (s : State) : Host.Outcome State Fault Refusal := onOriginator s fun s => (hbBuild s).answer

/-- `HB.TX` (R113). -/
def execHbTx (s : State) : Host.Outcome State Fault Refusal := onOriginator s fun s => (hbTx s).answer

/-- `HB.ADVANCE` (R114). -/
def execHbAdvance (t : Nat) (s : State) : Host.Outcome State Fault Refusal :=
  onOriginator s fun s => (hbAdvance t s).answer

/-- `HB.DIAG` (R115). -/
def execHbDiag (s : State) : Host.Outcome State Fault Refusal := onOriginator s fun s => (hbDiag s).answer

/-- `HEARTBEAT` (R116). -/
def execHeartbeat (s : State) : Host.Outcome State Fault Refusal := onOriginator s fun s => (heartbeat s).answer

/-- `HB.IDLE` (R111, R156): nothing at all. -/
def execHbIdle (s : State) : Host.Outcome State Fault Refusal :=
  onOriginator s fun s => onOutcome (!hbDue (nowSample s) s) s

/-- `HB.EMIT` (R116, R156). -/
def execHbEmit (s : State) : Host.Outcome State Fault Refusal :=
  onOriginator s fun s => onOutcome (hbDue (nowSample s) s) (emitted (nowSample s) s)

end Sys2Proof.Machine
end

