-- ==== Sys2Proof/Decode.lean ====
section
/-! DEFINITION. The decoder of received frames (spec 30_encoding R72, R73), the frame as a word (R60, D15), the operand
patterns of the codec operations (R80, R81, R83), and the encoders beside them. -/

namespace Sys2Proof

/-! ### The frame as a 64-bit word -/

/-- The word `W` of R60: offset 0 is bits 63:56, offset 7 is bits 7:0. -/
def Frame.toWord (f : Frame) : BitVec 64 :=
  f.id ++ f.src ++ f.dst ++ f.func ++ f.data0 ++ f.data1 ++ f.path ++ f.chk

/-- The frame whose word is `w` (R60). -/
def Frame.ofWord (w : BitVec 64) : Frame where
  id := w.extractLsb' 56 8
  src := w.extractLsb' 48 8
  dst := w.extractLsb' 40 8
  func := w.extractLsb' 32 8
  data0 := w.extractLsb' 24 8
  data1 := w.extractLsb' 16 8
  path := w.extractLsb' 8 8
  chk := w.extractLsb' 0 8

/-! ### Decoding the inbound stream -/

/-- Counting to eight (20_memory R44): the first eight bytes as a frame, first byte to offset 0 (R42), and the rest. -/
def takeFrame : List Byte → Option (Frame × List Byte)
  | b0 :: b1 :: b2 :: b3 :: b4 :: b5 :: b6 :: b7 :: rest => some (⟨b0, b1, b2, b3, b4, b5, b6, b7⟩, rest)
  | _ => none

/-- The outcome an eight-byte group selects in a node with configuration `c`, decided in the order of R72. -/
def classify (c : Config) (f : Frame) : Instr :=
  if f.valid then
    if f.dst = c.localId then .relayFwd f else .relayDropDst f
  else .relayDropChk f

/-- Why the decoder rejects: the configuration is ill-formed (R68). No group of bytes is rejected (R73). -/
inductive DecodeError where
  | illFormedConfig
deriving DecidableEq, Repr

/-- What the decoder answers: an outcome of `RELAY` and the bytes after it, or a rejection by name. -/
inductive Decoded where
  | instr (i : Instr) (rest : List Byte)
  | rejected (why : DecodeError)
deriving DecidableEq, Repr

/-- The decoder of the inbound stream (R72): total on any bytes; fewer than eight select `RELAY.IDLE` and stay. -/
def decode (c : Config) (bs : List Byte) : Decoded :=
  if c.wf then
    match takeFrame bs with
    | some (f, rest) => .instr (classify c f) rest
    | none => .instr .relayIdle bs
  else .rejected .illFormedConfig

/-- The bytes that select an outcome (R72). An operation the sequencer selects has no bytes (R71). -/
def encode : Instr → Option (List Byte)
  | .relayDropChk f => some f.toBytes
  | .relayDropDst f => some f.toBytes
  | .relayFwd f => some f.toBytes
  | .crc8Round => none
  | .crc8Byte _ => none
  | .crc8Buf _ => none
  | .crc8Frame => none
  | .rxPoll => none
  | .rxAssemble => none
  | .chkVerify => none
  | .dstMatch => none
  | .pathStamp => none
  | .srcStamp => none
  | .chkStamp => none
  | .txFwd => none
  | .diagFwd => none
  | .relay => none
  | .relayIdle => none
  | .hbCheck => none
  | .hbBuild => none
  | .hbTx => none
  | .hbAdvance _ => none
  | .hbDiag => none
  | .heartbeat => none
  | .hbIdle => none
  | .hbEmit => none
  | .loopIter => none

/-! ### The words of the opcode table -/

/-- The operand pattern of a codec operation, as a number of bits and a word, in a unit whose accumulator is `acc` and
whose buffer is `f`: `aaaaaaaa` (R80), `aaaaaaaabbbbbbbb` (R81), offsets 0 to 6 of the frame (R83). -/
def operandWord (acc : Byte) (f : Frame) : Instr → Option (Nat × Nat)
  | .crc8Round => some (8, acc.toNat)
  | .crc8Byte b => some (16, acc.toNat * 256 + b.toNat)
  | .crc8Frame => some (56, f.toWord.toNat / 256)
  | _ => none

/-- The frame whose offsets 0 to 6 are a 56-bit operand pattern (R83). -/
def Frame.ofHeaderWord (w : Nat) : Frame := Frame.ofWord (BitVec.ofNat 64 (w * 256))

/-- The instruction of a word of spec/opcode_table.json, by the number of bits the table gives it (log 12): the three
operand patterns of the codec by their widths; a 64-bit word as a received frame of the nominal node; no bits at all as
an empty stream. -/
def decodeTableWord (nbits w : Nat) : Option Instr :=
  match nbits with
  | 8 => some .crc8Round
  | 16 => some (.crc8Byte (BitVec.ofNat 8 w))
  | 56 => some .crc8Frame
  | 64 =>
    match decode Config.nominal (Frame.ofWord (BitVec.ofNat 64 w)).toBytes with
    | .instr i _ => some i
    | .rejected _ => none
  | 0 =>
    match decode Config.nominal [] with
    | .instr i _ => some i
    | .rejected _ => none
  | _ => none

end Sys2Proof
end

