-- ==== Sys2Proof/Machine/Relay.lean ====
section
/-! DEFINITION. The Frame Relay (spec 41_relay R90 to R99): its nine steps, `RELAY`, the four outcomes (30_encoding R72), and
their meanings. -/

namespace Sys2Proof.Machine

/-! ### The steps -/

/-- R90: fewer than eight bytes end `RELAY` with nothing changed. -/
def rxPoll (s : State) : Flow RelayOutcome := if rxReady s then .go s else .ended .idle s

/-- R91: eight bytes popped, the first to `F[0]`. -/
def rxAssemble (s : State) : Flow RelayOutcome :=
  match takeFrame s.rxq with
  | some (f, rest) => .go (setRxq rest (setFrame f s))
  | none => .fault .rxPopEmpty

/-- R92: the checksum is computed in `ACC` and compared with `F[7]`. -/
def chkVerify (s : State) : Flow RelayOutcome :=
  if chkOk (crc8Frame s) then .go (crc8Frame s) else raise .checksumMismatch (crc8Frame s)

/-- R93. -/
def dstMatch (s : State) : Flow RelayOutcome :=
  if dstMatches s then .go s else raise .notAddressedHere s

/-- R94. -/
def pathStamp (s : State) : Flow RelayOutcome :=
  .go (setFrame { s.f with path := s.f.path ||| pathMask s.cfg.localId } s)

/-- R95. -/
def srcStamp (s : State) : Flow RelayOutcome := .go (setFrame { s.f with src := s.cfg.localId } s)

/-- R96. -/
def chkStamp (s : State) : Flow RelayOutcome :=
  .go (setFrame { s.f with chk := (crc8Frame s).acc } (crc8Frame s))

/-- R97: one write unit. -/
def txFwd (s : State) : Flow RelayOutcome := .go (txWrite s.f.toBytes s)

/-- R98. -/
def diagFwd (s : State) : Flow RelayOutcome := .go (diag (.forwarded s.f) s)

/-! ### The whole operation -/

/-- `RELAY` (R99): the steps in the source's order. -/
def relay (s : State) : Flow RelayOutcome :=
  (rxPoll s).andThen fun s => (rxAssemble s).andThen fun s => (chkVerify s).andThen fun s => (dstMatch s).andThen fun s =>
    (pathStamp s).andThen fun s => (srcStamp s).andThen fun s => (chkStamp s).andThen fun s => (txFwd s).andThen fun s =>
      (diagFwd s).andThen fun s => .ended .fwd s

/-! ### The outcomes, each as its row of R72 and R156 gives it -/

/-- The unit's decoder reads the outcome `i` from the head of `RXQ`. -/
def selects (s : State) (i : Instr) (rest : List Byte) : Bool := decide (decode s.cfg s.rxq = .instr i rest)

/-- A dropped frame (R144, R156): eight bytes gone, one record, no write unit; `F` keeps the frame, `ACC` its checksum. -/
def dropped (r : DiagRecord) (f : Frame) (s : State) : State :=
  diag r (setAcc f.crc (setFrame f (setRxq (s.rxq.drop 8) s)))

/-- A forwarded frame, the one-function form of R99: the stamped frame is sent as one unit and reported. -/
def forwarded (f : Frame) (s : State) : State :=
  let o := stamped s.cfg f
  diag (.forwarded o) (txWrite o.toBytes (setAcc o.chk (setFrame o (setRxq (s.rxq.drop 8) s))))

/-! ### Meanings -/

/-- `RX.POLL` (R90). Its condition is used by `RELAY` and kept nowhere (R28). -/
def execRxPoll (s : State) : Host.Outcome State Fault Refusal := onUnit s fun s => (rxPoll s).answer

/-- `RX.ASSEMBLE` (R91). -/
def execRxAssemble (s : State) : Host.Outcome State Fault Refusal := onUnit s fun s => (rxAssemble s).answer

/-- `CHK.VERIFY` (R92). -/
def execChkVerify (s : State) : Host.Outcome State Fault Refusal := onUnit s fun s => (chkVerify s).answer

/-- `DST.MATCH` (R93). -/
def execDstMatch (s : State) : Host.Outcome State Fault Refusal := onUnit s fun s => (dstMatch s).answer

/-- `PATH.STAMP` (R94). -/
def execPathStamp (s : State) : Host.Outcome State Fault Refusal := onUnit s fun s => (pathStamp s).answer

/-- `SRC.STAMP` (R95). -/
def execSrcStamp (s : State) : Host.Outcome State Fault Refusal := onUnit s fun s => (srcStamp s).answer

/-- `CHK.STAMP` (R96). -/
def execChkStamp (s : State) : Host.Outcome State Fault Refusal := onUnit s fun s => (chkStamp s).answer

/-- `TX.FWD` (R97). -/
def execTxFwd (s : State) : Host.Outcome State Fault Refusal := onUnit s fun s => (txFwd s).answer

/-- `DIAG.FWD` (R98). -/
def execDiagFwd (s : State) : Host.Outcome State Fault Refusal := onUnit s fun s => (diagFwd s).answer

/-- `RELAY` (R99). -/
def execRelay (s : State) : Host.Outcome State Fault Refusal := onUnit s fun s => (relay s).answer

/-- `RELAY.IDLE` (R72, R90): nothing at all. -/
def execRelayIdle (s : State) : Host.Outcome State Fault Refusal :=
  onUnit s fun s => onOutcome (selects s .relayIdle s.rxq) s

/-- `RELAY.DROP_CHK` (R72, R141). -/
def execRelayDropChk (f : Frame) (s : State) : Host.Outcome State Fault Refusal :=
  onUnit s fun s => onOutcome (selects s (.relayDropChk f) (s.rxq.drop 8)) (dropped .checksumMismatch f s)

/-- `RELAY.DROP_DST` (R72, R142). -/
def execRelayDropDst (f : Frame) (s : State) : Host.Outcome State Fault Refusal :=
  onUnit s fun s => onOutcome (selects s (.relayDropDst f) (s.rxq.drop 8)) (dropped .notAddressedHere f s)

/-- `RELAY.FWD` (R72, R99). -/
def execRelayFwd (f : Frame) (s : State) : Host.Outcome State Fault Refusal :=
  onUnit s fun s => onOutcome (selects s (.relayFwd f) (s.rxq.drop 8)) (forwarded f s)

end Sys2Proof.Machine
end

