-- ==== Sys2Proof/Machine/Loop.lean ====
section
/-! DEFINITION. The polling loop (spec 43_sequencer R125 to R127). -/

namespace Sys2Proof.Machine

/-- One iteration (R125): `RELAY`, however it ends (R145), then `HEARTBEAT` in variant 2. -/
def iteration (s : State) : Host.Outcome State Fault Refusal :=
  afterwards (relay s).answer fun s => if s.cfg.hasHb then (heartbeat s).answer else .next s

/-- `LOOP.ITER` (R125). -/
def execLoopIter (s : State) : Host.Outcome State Fault Refusal := onUnit s iteration

end Sys2Proof.Machine
end

