-- ==== Sys2Proof/Machine/Dispatch.lean ====
section
/-! DEFINITION. One arm per constructor of Instr. -/

namespace Sys2Proof.Machine

def exec (i : Instr) (s : State) : Host.Outcome State Fault Refusal :=
  match i with
  | .crc8Round => Sys2Proof.Machine.execCrc8Round s
  | .crc8Byte b => Sys2Proof.Machine.execCrc8Byte b s
  | .crc8Buf l => Sys2Proof.Machine.execCrc8Buf l s
  | .crc8Frame => Sys2Proof.Machine.execCrc8Frame s
  | .rxPoll => Sys2Proof.Machine.execRxPoll s
  | .rxAssemble => Sys2Proof.Machine.execRxAssemble s
  | .chkVerify => Sys2Proof.Machine.execChkVerify s
  | .dstMatch => Sys2Proof.Machine.execDstMatch s
  | .pathStamp => Sys2Proof.Machine.execPathStamp s
  | .srcStamp => Sys2Proof.Machine.execSrcStamp s
  | .chkStamp => Sys2Proof.Machine.execChkStamp s
  | .txFwd => Sys2Proof.Machine.execTxFwd s
  | .diagFwd => Sys2Proof.Machine.execDiagFwd s
  | .relay => Sys2Proof.Machine.execRelay s
  | .relayIdle => Sys2Proof.Machine.execRelayIdle s
  | .relayDropChk f => Sys2Proof.Machine.execRelayDropChk f s
  | .relayDropDst f => Sys2Proof.Machine.execRelayDropDst f s
  | .relayFwd f => Sys2Proof.Machine.execRelayFwd f s
  | .hbCheck => Sys2Proof.Machine.execHbCheck s
  | .hbBuild => Sys2Proof.Machine.execHbBuild s
  | .hbTx => Sys2Proof.Machine.execHbTx s
  | .hbAdvance t => Sys2Proof.Machine.execHbAdvance t s
  | .hbDiag => Sys2Proof.Machine.execHbDiag s
  | .heartbeat => Sys2Proof.Machine.execHeartbeat s
  | .hbIdle => Sys2Proof.Machine.execHbIdle s
  | .hbEmit => Sys2Proof.Machine.execHbEmit s
  | .loopIter => Sys2Proof.Machine.execLoopIter s

end Sys2Proof.Machine
end

