-- ==== Sys2Proof/Machine/Environment.lean ====
section
/-! DEFINITION. The environment (spec 43_sequencer R129, R132; 70_reset_and_hazards R160): what it does between two iterations,
and what comes next. -/

namespace Sys2Proof.Machine

/-- Environment step (a) of R129: bytes at the tail of `RXQ`. -/
def appendRx (bs : List Byte) (s : State) : State := { s with rxq := s.rxq ++ bs }

/-- Environment step (b) of R129: the next `Now()` returns `t`, a `TIME_W`-bit value (R32). Variant 1 has no TIME port (R3). -/
def takeSample (t : Nat) (s : State) : State :=
  if s.cfg.hasHb then { s with now := t % 2 ^ s.cfg.timeW } else s

/-- The reset event (R160); what the environment has in store stays (log 16). -/
def resetUnit (s : State) : State := { State.resetWith s.cfg with script := s.script, draws := s.draws }

/-- What the next step of the machine is (R129): the environment alone acts, or the unit runs an iteration. -/
inductive Turn where
  | environment (s : State)
  | unit (s : State)
deriving DecidableEq, Repr

/-- The event at the head of the script; with no script left, any bytes arrive, any time passes, and the unit runs one
iteration (log 5). -/
def nextTurn (s : State) : Turn :=
  match s.script with
  | .reset :: es => .environment (resetUnit { s with script := es })
  | .rx bs :: es => .environment (appendRx bs { s with script := es })
  | .iter t :: es => .unit (takeSample t { s with script := es })
  | [] => .unit (takeSample (Config.freeNow s.draws) (appendRx (Config.freeRx s.draws) { s with draws := s.draws + 1 }))

/-- The word of a row of the opcode table placed where the unit finds it (log 12): a frame at the head of `RXQ`, an
operand pattern of the codec in `ACC` or `F`; the next event is an iteration in which no time has passed since `LAST`. -/
def placeWord (s : State) (nbits w : Nat) : State :=
  match nbits with
  | 8 => { s with acc := BitVec.ofNat 8 w, script := [.iter s.last] }
  | 16 => { s with acc := BitVec.ofNat 8 (w / 256), script := [.iter s.last] }
  | 56 => { s with f := Frame.ofHeaderWord w, script := [.iter s.last] }
  | 64 => { s with rxq := (Frame.ofWord (BitVec.ofNat 64 w)).toBytes ++ s.rxq, script := [.iter s.last] }
  | _ => { s with script := [.iter s.last] }

end Sys2Proof.Machine
end

