-- ==== Sys2Proof/Machine/Step.lean ====
section
/-! DEFINITION. The step relation as a function (spec 43_sequencer R129): an environment step, or one `LOOP.ITER`. -/

namespace Sys2Proof.Machine

/-- One step of the machine. A unit step is one whole iteration (R126, D1). -/
def step (s : State) : Host.Outcome State Fault Refusal :=
  if s.cfg.wf then
    match nextTurn s with
    | .environment t => .next t
    | .unit t => exec .loopIter t
  else .refused .illFormedConfig

/-- `s` with the word of a row of the opcode table placed where the next step finds it (log 12). -/
def State.withFetchWord (s : State) (nbits w : Nat) : State := placeWord s nbits w

end Sys2Proof.Machine
end

