-- ==== Sys2Proof/Safety.lean ====
section
/-! DEFINITION. What claims are stated in: answering, iterating, the relay's record of a group, the wire as a function of the
diagnostic log, the invariant, and units that differ in `SEQ_W` only. -/

namespace Sys2Proof.Machine

/-- The state an outcome answers, if it answers one. -/
def answer? (m : Host.Outcome State Fault Refusal) : Option State :=
  match m with
  | .next s => some s
  | .fault _ => none
  | .refused _ => none

/-- `n` iterations with no environment step between them. -/
def iterate : Nat → State → Host.Outcome State Fault Refusal
  | 0, s => .next s
  | n + 1, s => afterwards (exec .loopIter s) (iterate n)

/-- The record `RELAY` makes of the eight bytes at the head of a stream (R72, R76); none of fewer than eight. -/
def relayRecord (c : Config) (bs : List Byte) : List DiagRecord :=
  match takeFrame bs with
  | some (f, _) =>
    if f.valid then
      if f.dst = c.localId then [.forwarded (stamped c f)] else [.notAddressedHere]
    else [.checksumMismatch]
  | none => []

/-- A record of the relay, not of the originator. -/
def DiagRecord.ofRelay : DiagRecord → Bool
  | .forwarded _ => true
  | .checksumMismatch => true
  | .notAddressedHere => true
  | .heartbeatSent => false

/-- How many heartbeats a diagnostic log reports. -/
def heartbeatCount : List DiagRecord → Nat
  | [] => 0
  | .heartbeatSent :: ds => heartbeatCount ds + 1
  | _ :: ds => heartbeatCount ds

/-- The write units a diagnostic log stands for, when its next heartbeat has number `k`: one unit of eight bytes for a
forwarded frame (R48), a unit of seven bytes and one of the checksum byte for a heartbeat (R49), none for a drop. -/
def unitsOf (c : Config) : Nat → List DiagRecord → List (List Byte)
  | _, [] => []
  | k, .forwarded f :: ds => f.toBytes :: unitsOf c k ds
  | k, .checksumMismatch :: ds => unitsOf c k ds
  | k, .notAddressedHere :: ds => unitsOf c k ds
  | k, .heartbeatSent :: ds =>
    (heartbeatFrame c k).header :: [(heartbeatFrame c k).chk] :: unitsOf c (k + 1) ds

/-- A frame as the relay may send it (R102 (c)): valid, SRC and DST the local node, its PATH bit set. -/
def sendable (c : Config) (f : Frame) : Bool :=
  f.valid && f.src == c.localId && f.dst == c.localId && f.path.getLsbD (c.localId.toNat - 1)

/-- The invariant of the machine: the configuration is well-formed, every register fits its width, `TXLOG` is what
`DIAGLOG` reports with heartbeats numbered from 1, `SEQ` counts them, every forwarded frame is sendable, and a variant-1
unit has sent no heartbeat. -/
structure UnitInv (s : State) : Prop where
  cfg_wf : s.cfg.wf = true
  seq_eq : s.seq = (1 + heartbeatCount s.diaglog) % 2 ^ s.cfg.seqW
  last_lt : s.last < 2 ^ s.cfg.timeW
  now_lt : s.now < 2 ^ s.cfg.timeW
  wire : s.txlog = unitsOf s.cfg 1 s.diaglog
  forwards : ∀ f, DiagRecord.forwarded f ∈ s.diaglog → sendable s.cfg f = true
  variant1 : s.cfg.hasHb = false → heartbeatCount s.diaglog = 0

/-- Two units alike in everything but `SEQ_W` and the bits of `SEQ` above the low byte. -/
structure SameButSeqWidth (s t : State) : Prop where
  cfg_eq : t.cfg = { s.cfg with seqW := t.cfg.seqW }
  seq_low : idByte t.seq = idByte s.seq
  others : t = { s with cfg := t.cfg, seq := t.seq }

end Sys2Proof.Machine
end

