-- ==== Sys2Proof/Certificates/Slice0/Obligations.lean ====
section
/-! DEFINITION. The statements for the provers. Each docstring names the rules of the spec it formalises. -/

open Sys2Proof Sys2Proof.Machine

/-! ### The Frame Codec -/

/-- R80. -/
def Obligations.Crc8RoundShiftsAndReduces : Prop :=
  ∀ s : State, s.cfg.wf = true →
    exec .crc8Round s =
      .next { s with acc := if s.acc.getLsbD 7 = true then (s.acc <<< 1) ^^^ 0x07#8 else s.acc <<< 1 }

/-- R81, its pseudocode (log 15). -/
def Obligations.Crc8ByteXorsThenRunsEightRounds : Prop :=
  ∀ (b : Byte) (s : State), s.cfg.wf = true →
    exec (.crc8Byte b) s = .next { s with acc := crcRound^[8] (s.acc ^^^ b) } ∧
    (s.acc = b → exec (.crc8Byte b) s = .next { s with acc := 0x00#8 })

/-- R82: from 0x00, each byte in order, for every length (D25); a list of zero bytes gives 0x00. -/
def Obligations.Crc8BufAbsorbsBytesInOrderFromZero : Prop :=
  ∀ s : State, s.cfg.wf = true →
    (∀ l : List Byte, exec (.crc8Buf l) s = .next { s with acc := l.foldl (fun a b => crcRound^[8] (a ^^^ b)) 0x00#8 }) ∧
    (∀ n : Nat, exec (.crc8Buf (List.replicate n 0x00#8)) s = .next { s with acc := 0x00#8 })

/-- R83: the checksum of `F[0]` to `F[6]`, whatever `F[7]` holds. -/
def Obligations.Crc8FrameReadsOffsetsZeroToSix : Prop :=
  ∀ (s : State) (x : Byte), s.cfg.wf = true →
    exec .crc8Frame { s with f := { s.f with chk := x } } =
      .next { s with
        f := { s.f with chk := x },
        acc := crcBuf [s.f.id, s.f.src, s.f.dst, s.f.func, s.f.data0, s.f.data1, s.f.path] }

/-- Log 15: by R81's pseudocode a zero byte leaves `ACC` unchanged for exactly two values of it. R81's prose names the
first only. -/
def Obligations.ZeroByteFixesOnlyZeroAndFd : Prop :=
  ∀ a : Byte, crcByte a 0x00#8 = a ↔ a = 0x00#8 ∨ a = 0xFD#8

/-- R86 (a), (c). -/
def Obligations.CrcHasTableFormAndIgnoresLeadingZeros : Prop :=
  (∀ a b : Byte, crcByte a b = crcBuf [a ^^^ b]) ∧
  (∀ (n : Nat) (l : List Byte), crcBuf (List.replicate n 0x00#8 ++ l) = crcBuf l)

/-- R86 (b). -/
def Obligations.CrcIsLinear : Prop :=
  ∀ l m : List Byte, l.length = m.length →
    crcBuf (List.zipWith (fun a b => a ^^^ b) l m) = crcBuf l ^^^ crcBuf m

/-- R86 (d). -/
def Obligations.CrcOfSealedListIsZero : Prop :=
  (∀ l : List Byte, crcBuf (l ++ [crcBuf l]) = 0x00#8) ∧
  (∀ f : Frame, f.valid = true ↔ crcBuf f.toBytes = 0x00#8)

/-- R86 (e), for every list of seven bytes. -/
def Obligations.CrcDetectsEverySingleBit : Prop :=
  ∀ (l : List Byte) (i k : Nat), l.length = 7 → i < 7 → k < 8 →
    crcBuf (l.modify i (fun b => b ^^^ (1#8 <<< k))) ≠ crcBuf l

/-- R86 (f). -/
def Obligations.CrcMissesGeneratorPattern : Prop :=
  ∀ b0 b1 b2 b3 b4 b5 b6 : Byte,
    crcBuf [b0, b1, b2, b3, b4, b5 ^^^ 0x01#8, b6 ^^^ 0x07#8] = crcBuf [b0, b1, b2, b3, b4, b5, b6]

/-- A byte as a polynomial over GF(2), bit k the coefficient of x^k (R85). -/
noncomputable def Sys2Proof.Claim.bytePoly (b : Byte) : Polynomial (ZMod 2) :=
  ∑ k ∈ Finset.range 8, if b.getLsbD k = true then Polynomial.X ^ k else 0

/-- M(x) of R85: the first byte's bit 7 is the highest power. -/
noncomputable def Sys2Proof.Claim.messagePoly : List Byte → Polynomial (ZMod 2)
  | [] => 0
  | b :: l => Sys2Proof.Claim.bytePoly b * Polynomial.X ^ (8 * l.length) + Sys2Proof.Claim.messagePoly l

/-- R85: the remainder of M(x) x^8 divided by x^8 + x^2 + x + 1. -/
def Obligations.CrcIsPolynomialRemainder : Prop :=
  ∀ l : List Byte,
    (Sys2Proof.Claim.messagePoly l * Polynomial.X ^ 8) %ₘ
        (Polynomial.X ^ 8 + Polynomial.X ^ 2 + Polynomial.X + 1 : Polynomial (ZMod 2)) =
      Sys2Proof.Claim.bytePoly (crcBuf l)

/-! ### The Frame Relay, step by step -/

/-- R90. -/
def Obligations.RxPollEndsRelayOnFewerThanEightBytes : Prop :=
  ∀ s : State, s.cfg.wf = true →
    exec .rxPoll s = .next s ∧
    (8 ≤ s.rxq.length → rxPoll s = .go s) ∧
    (s.rxq.length < 8 → rxPoll s = .ended .idle s ∧ exec .relay s = .next s)

/-- R91. -/
def Obligations.RxAssembleFillsBufferInWireOrder : Prop :=
  ∀ (s : State) (b0 b1 b2 b3 b4 b5 b6 b7 : Byte) (rest : List Byte), s.cfg.wf = true →
    s.rxq = b0 :: b1 :: b2 :: b3 :: b4 :: b5 :: b6 :: b7 :: rest →
    exec .rxAssemble s = .next { s with
      f := { id := b0, src := b1, dst := b2, func := b3, data0 := b4, data1 := b5, path := b6, chk := b7 },
      rxq := rest }

/-- The model's own stops outside the sequence of R99 and R116 (logs 7, 8): no pop from an empty stream, no outcome
whose condition is false. -/
def Obligations.StepsOutsideTheSequenceStop : Prop :=
  ∀ s : State, s.cfg.wf = true →
    (s.rxq.length < 8 → exec .rxAssemble s = .fault .rxPopEmpty) ∧
    (8 ≤ s.rxq.length → exec .relayIdle s = .refused .outcomeNotSelected) ∧
    (∀ (f : Frame) (rest : List Byte), takeFrame s.rxq = some (f, rest) →
      (f.valid = true → exec (.relayDropChk f) s = .refused .outcomeNotSelected) ∧
      ((f.valid = false ∨ f.dst = s.cfg.localId) → exec (.relayDropDst f) s = .refused .outcomeNotSelected) ∧
      ((f.valid = false ∨ f.dst ≠ s.cfg.localId) → exec (.relayFwd f) s = .refused .outcomeNotSelected)) ∧
    (s.cfg.hasHb = true →
      (s.cfg.hbInterval ≤ elapsed s.cfg.timeW s.now s.last → exec .hbIdle s = .refused .outcomeNotSelected) ∧
      (elapsed s.cfg.timeW s.now s.last < s.cfg.hbInterval → exec .hbEmit s = .refused .outcomeNotSelected))

/-- R92, R141. -/
def Obligations.ChkVerifyRaisesOnWrongChecksum : Prop :=
  ∀ s : State, s.cfg.wf = true →
    (s.f.chk = crcBuf s.f.header →
      chkVerify s = .go { s with acc := crcBuf s.f.header } ∧
      exec .chkVerify s = .next { s with acc := crcBuf s.f.header }) ∧
    (s.f.chk ≠ crcBuf s.f.header →
      chkVerify s = .ended .dropChk
        { s with acc := crcBuf s.f.header, diaglog := s.diaglog ++ [.checksumMismatch] } ∧
      exec .chkVerify s = .next
        { s with acc := crcBuf s.f.header, diaglog := s.diaglog ++ [.checksumMismatch] })

/-- R93, R142. -/
def Obligations.DstMatchRaisesOnForeignDestination : Prop :=
  ∀ s : State, s.cfg.wf = true →
    (s.f.dst = s.cfg.localId → dstMatch s = .go s ∧ exec .dstMatch s = .next s) ∧
    (s.f.dst ≠ s.cfg.localId →
      dstMatch s = .ended .dropDst { s with diaglog := s.diaglog ++ [.notAddressedHere] } ∧
      exec .dstMatch s = .next { s with diaglog := s.diaglog ++ [.notAddressedHere] })

/-- R94: the own bit is set, every other bit kept, and a valid frame that did not carry the bit is no longer valid. -/
def Obligations.PathStampSetsOwnBitAndKeepsOthers : Prop :=
  ∀ s : State, s.cfg.wf = true →
    ∃ p : Byte, exec .pathStamp s = .next { s with f := { s.f with path := p } } ∧
      p = s.f.path ||| BitVec.ofNat 8 (1 <<< (s.cfg.localId.toNat - 1)) ∧
      (∀ k, p.getLsbD k = (s.f.path.getLsbD k || decide (k = s.cfg.localId.toNat - 1))) ∧
      (s.f.valid = true → s.f.path.getLsbD (s.cfg.localId.toNat - 1) = false →
        ({ s.f with path := p } : Frame).valid = false)

/-- R95: SRC is overwritten; the order of the two stamps does not matter. -/
def Obligations.SrcStampOverwritesSrcInEitherOrder : Prop :=
  ∀ s : State, s.cfg.wf = true →
    exec .srcStamp s = .next { s with f := { s.f with src := s.cfg.localId } } ∧
    afterwards (exec .pathStamp s) (exec .srcStamp) = afterwards (exec .srcStamp s) (exec .pathStamp)

/-- R96: CHK is the checksum of offsets 0 to 6; the frame is valid again. -/
def Obligations.ChkStampMakesFrameValid : Prop :=
  ∀ s : State, s.cfg.wf = true →
    ∃ g : Frame, exec .chkStamp s = .next { s with f := g, acc := crcBuf s.f.header } ∧
      g = { s.f with chk := crcBuf s.f.header } ∧ g.valid = true

/-- R97. -/
def Obligations.TxFwdWritesOneUnitOfEightBytes : Prop :=
  ∀ s : State, s.cfg.wf = true →
    exec .txFwd s = .next { s with
      txlog := s.txlog ++ [[s.f.id, s.f.src, s.f.dst, s.f.func, s.f.data0, s.f.data1, s.f.path, s.f.chk]] }

/-- R98. -/
def Obligations.DiagFwdRecordsTheBuffer : Prop :=
  ∀ s : State, s.cfg.wf = true → exec .diagFwd s = .next { s with diaglog := s.diaglog ++ [.forwarded s.f] }

/-- R140, R76: two error kinds, their cause codes, and the codes of the four records. -/
def Obligations.ErrorKindsHaveTheirCauseCodes : Prop :=
  ErrorKind.cause .checksumMismatch = 1 ∧ ErrorKind.cause .notAddressedHere = 2 ∧
  (∀ e : ErrorKind, e = .checksumMismatch ∨ e = .notAddressedHere) ∧
  (∀ f : Frame, DiagRecord.code (.forwarded f) = 0) ∧ DiagRecord.code .checksumMismatch = 1 ∧
  DiagRecord.code .notAddressedHere = 2 ∧ DiagRecord.code .heartbeatSent = 3

/-! ### The Frame Relay as a whole -/

/-- R99: in its one-function form, with what `F` and `ACC` hold after it (R156); and on a frame for this node as the nine
steps in the source's order. -/
def Obligations.RelayIsOneFunctionOfTheGroup : Prop :=
  ∀ s : State, s.cfg.wf = true →
    (s.rxq.length < 8 → exec .relay s = .next s) ∧
    (∀ (f : Frame) (rest : List Byte), s.rxq = f.toBytes ++ rest →
      let p := f.path ||| BitVec.ofNat 8 (1 <<< (s.cfg.localId.toNat - 1))
      let k := crcBuf [f.id, s.cfg.localId, f.dst, f.func, f.data0, f.data1, p]
      let o : Frame := { f with src := s.cfg.localId, path := p, chk := k }
      exec .relay s = .next (
        if f.chk ≠ crcBuf f.header then
          { s with rxq := rest, f := f, acc := crcBuf f.header, diaglog := s.diaglog ++ [.checksumMismatch] }
        else if f.dst ≠ s.cfg.localId then
          { s with rxq := rest, f := f, acc := crcBuf f.header, diaglog := s.diaglog ++ [.notAddressedHere] }
        else
          { s with rxq := rest, f := o, acc := k, txlog := s.txlog ++ [o.toBytes],
                   diaglog := s.diaglog ++ [.forwarded o] }) ∧
      (f.chk = crcBuf f.header → f.dst = s.cfg.localId →
        [Instr.rxPoll, .rxAssemble, .chkVerify, .dstMatch, .pathStamp, .srcStamp, .chkStamp, .txFwd, .diagFwd].foldl
          (fun m i => afterwards m (exec i)) (.next s) = exec .relay s))

/-- R72: what the decoder reads from the stream is what `RELAY` does. -/
def Obligations.RelayRunsTheDecodedOutcome : Prop :=
  ∀ (s : State) (i : Instr) (rest : List Byte), decode s.cfg s.rxq = .instr i rest →
    exec .relay s = exec i s ∧ ∃ t, exec i s = .next t ∧ t.rxq = rest

/-- R72, R156: each outcome row has its effect where its condition holds. -/
def Obligations.RelayOutcomesHaveTheirEffects : Prop :=
  ∀ s : State, s.cfg.wf = true →
    (s.rxq.length < 8 → exec .relayIdle s = .next s) ∧
    (∀ (f : Frame) (rest : List Byte), s.rxq = f.toBytes ++ rest →
      (f.valid = false → exec (.relayDropChk f) s = .next
        { s with rxq := rest, f := f, acc := f.crc, diaglog := s.diaglog ++ [.checksumMismatch] }) ∧
      (f.valid = true → f.dst ≠ s.cfg.localId → exec (.relayDropDst f) s = .next
        { s with rxq := rest, f := f, acc := f.crc, diaglog := s.diaglog ++ [.notAddressedHere] }) ∧
      (f.valid = true → f.dst = s.cfg.localId → exec (.relayFwd f) s = .next
        { s with rxq := rest, f := stamped s.cfg f, acc := (stamped s.cfg f).chk,
                 txlog := s.txlog ++ [(stamped s.cfg f).toBytes],
                 diaglog := s.diaglog ++ [.forwarded (stamped s.cfg f)] }))

/-- R72, R73, R143: every group has exactly one outcome, decided in that order; a DST that is no node is never
forwarded. An ill-formed configuration (R163 (a), log 9 DEDUCED) decodes nothing. -/
def Obligations.DecoderClassifiesEveryStream : Prop :=
  (∀ (c : Config) (bs : List Byte), c.wf = false → decode c bs = .rejected .illFormedConfig) ∧
  (∀ (c : Config) (bs : List Byte), c.wf = true → bs.length < 8 → decode c bs = .instr .relayIdle bs) ∧
  (∀ (c : Config) (f : Frame) (rest : List Byte), c.wf = true →
    (f.chk ≠ crcBuf f.header → decode c (f.toBytes ++ rest) = .instr (.relayDropChk f) rest) ∧
    (f.chk = crcBuf f.header → f.dst ≠ c.localId → decode c (f.toBytes ++ rest) = .instr (.relayDropDst f) rest) ∧
    (f.chk = crcBuf f.header → f.dst = c.localId → decode c (f.toBytes ++ rest) = .instr (.relayFwd f) rest) ∧
    (f.chk = crcBuf f.header → f.dst = 0x00#8 ∨ 8 ≤ f.dst.toNat →
      decode c (f.toBytes ++ rest) = .instr (.relayDropDst f) rest))

/-- Decode and encode agree on every well-formed outcome that bits select, and what the decoder answers is well-formed
and encodes to the bytes read. -/
def Obligations.OutcomesRoundTripThroughTheirBytes : Prop :=
  (∀ (c : Config) (i : Instr) (bs rest : List Byte), i.wf c = true → encode i = some bs →
    decode c (bs ++ rest) = .instr i rest) ∧
  (∀ (c : Config) (bs rest : List Byte) (i : Instr), decode c bs = .instr i rest → i ≠ .relayIdle →
    i.wf c = true ∧ ∃ hd, encode i = some hd ∧ bs = hd ++ rest)

/-- R60 (D15): offset 0 is bits 63:56, offset 7 bits 7:0, and the word holds the frame and nothing else. -/
def Obligations.FrameWordPutsOffsetZeroFirst : Prop :=
  ∀ (f : Frame) (w : BitVec 64),
    f.toWord.extractLsb' 56 8 = f.id ∧ f.toWord.extractLsb' 48 8 = f.src ∧ f.toWord.extractLsb' 40 8 = f.dst ∧
    f.toWord.extractLsb' 32 8 = f.func ∧ f.toWord.extractLsb' 24 8 = f.data0 ∧ f.toWord.extractLsb' 16 8 = f.data1 ∧
    f.toWord.extractLsb' 8 8 = f.path ∧ f.toWord.extractLsb' 0 8 = f.chk ∧
    Frame.ofWord f.toWord = f ∧ (Frame.ofWord w).toWord = w

/-- Words written out from the spec's tables decode to the rows they stand for. -/
def Obligations.TableWordsDecodeToTheirRows : Prop :=
  (∀ (acc b : Byte) (f : Frame),
    (operandWord acc f .crc8Round).bind (fun p => decodeTableWord p.1 p.2) = some .crc8Round ∧
    (operandWord acc f (.crc8Byte b)).bind (fun p => decodeTableWord p.1 p.2) = some (.crc8Byte b) ∧
    (operandWord acc f .crc8Frame).bind (fun p => decodeTableWord p.1 p.2) = some .crc8Frame) ∧
  decodeTableWord 64 0x010203010000003D = some (.relayFwd ⟨0x01, 0x02, 0x03, 0x01, 0x00, 0x00, 0x00, 0x3D⟩) ∧
  decodeTableWord 64 0x010203010000003C = some (.relayDropChk ⟨0x01, 0x02, 0x03, 0x01, 0x00, 0x00, 0x00, 0x3C⟩) ∧
  decodeTableWord 64 0x0102050100000076 = some (.relayDropDst ⟨0x01, 0x02, 0x05, 0x01, 0x00, 0x00, 0x00, 0x76⟩)

/-- R102 (a), (b), (c) and R100: a frame sealed with its checksum and addressed to this node is forwarded; what is sent
is valid, names this node as SRC and DST, carries its PATH bit and every PATH bit received, and keeps ID, FUNC and DATA. -/
def Obligations.SealedFrameIsForwardedMarkedAndValid : Prop :=
  ∀ (s : State) (g : Frame) (rest : List Byte), s.cfg.wf = true → g.dst = s.cfg.localId →
    s.rxq = g.sealed.toBytes ++ rest →
    ∃ (t : State) (o : Frame), exec .relay s = .next t ∧ t.txlog = s.txlog ++ [o.toBytes] ∧
      o.valid = true ∧ o.src = s.cfg.localId ∧ o.dst = s.cfg.localId ∧
      o.path.getLsbD (s.cfg.localId.toNat - 1) = true ∧
      (∀ k, g.path.getLsbD k = true → o.path.getLsbD k = true) ∧
      o.id = g.id ∧ o.func = g.func ∧ o.data0 = g.data0 ∧ o.data1 = g.data1

/-- R102 (d): a frame this node could have sent comes back unchanged. -/
def Obligations.ForwardedFrameIsForwardedUnchanged : Prop :=
  ∀ (s : State) (f : Frame) (rest : List Byte), s.cfg.wf = true → f.valid = true → f.dst = s.cfg.localId →
    s.rxq = (stamped s.cfg f).toBytes ++ rest →
    exec .relay s = .next { s with
      rxq := rest, f := stamped s.cfg f, acc := (stamped s.cfg f).chk,
      txlog := s.txlog ++ [(stamped s.cfg f).toBytes],
      diaglog := s.diaglog ++ [.forwarded (stamped s.cfg f)] }

/-- R102 (e), R86 (e): a valid frame with any one of its 64 bits flipped is dropped as a checksum mismatch. -/
def Obligations.OneBitTamperIsDropped : Prop :=
  ∀ (s : State) (f g : Frame) (rest : List Byte) (i k : Nat), s.cfg.wf = true → f.valid = true →
    i < 8 → k < 8 → g.toBytes = f.toBytes.modify i (fun b => b ^^^ (1#8 <<< k)) → s.rxq = g.toBytes ++ rest →
    exec .relay s = .next { s with
      rxq := rest, f := g, acc := g.crc, diaglog := s.diaglog ++ [.checksumMismatch] }

/-- R100, R118: the relay neither reads nor writes the originator's state, and the originator neither reads nor writes
the inbound stream; whether a heartbeat is due, its bytes and its effect do not depend on what the relay left. -/
def Obligations.RelayAndHeartbeatAreIndependent : Prop :=
  (∀ (s t : State) (q l n : Nat), exec .relay s = .next t →
    t.seq = s.seq ∧ t.last = s.last ∧ t.now = s.now ∧
    exec .relay { s with seq := q, last := l, now := n } = .next { t with seq := q, last := l, now := n }) ∧
  (∀ (s t : State) (f : Frame) (a : Byte) (bs : List Byte), exec .heartbeat s = .next t →
    t.rxq = s.rxq ∧
    ∃ u, exec .heartbeat { s with f := f, acc := a, rxq := bs } = .next u ∧
      u.seq = t.seq ∧ u.last = t.last ∧ u.txlog = t.txlog ∧ u.diaglog = t.diaglog ∧ u.rxq = bs)

/-! ### The Heartbeat Originator -/

/-- R111: unsigned, at least, modulo 2^TIME_W; the two cases of the modular difference are written out. -/
def Obligations.HbCheckComparesElapsedTime : Prop :=
  (∀ s : State, s.cfg.wf = true → s.cfg.hasHb = true →
    exec .hbCheck s = .next s ∧
    ∀ t, hbCheck t s = if s.cfg.hbInterval ≤ elapsed s.cfg.timeW t s.last then .go s else .ended .idle s) ∧
  (∀ w t last : Nat, t < 2 ^ w → last < 2 ^ w →
    elapsed w t last = if last ≤ t then t - last else t + 2 ^ w - last)

/-- R112. -/
def Obligations.HbBuildSynthesizesTheFrame : Prop :=
  ∀ s : State, s.cfg.wf = true → s.cfg.hasHb = true →
    let k := crcBuf [BitVec.ofNat 8 s.seq, s.cfg.localId, s.cfg.collectorId, s.cfg.hbFunc, 0x00#8, 0x00#8, 0x00#8]
    exec .hbBuild s = .next { s with
      f := ⟨BitVec.ofNat 8 s.seq, s.cfg.localId, s.cfg.collectorId, s.cfg.hbFunc, 0x00#8, 0x00#8, 0x00#8, k⟩,
      acc := k }

/-- R113. -/
def Obligations.HbTxWritesSevenBytesThenOne : Prop :=
  ∀ s : State, s.cfg.wf = true → s.cfg.hasHb = true →
    exec .hbTx s = .next { s with
      txlog := s.txlog ++ [[s.f.id, s.f.src, s.f.dst, s.f.func, s.f.data0, s.f.data1, s.f.path], [s.f.chk]] }

/-- R114, for a sample of `TIME_W` bits; after 2^SEQ_W - 1 comes 0. -/
def Obligations.HbAdvanceStepsSeqAndRestartsInterval : Prop :=
  ∀ (s : State) (t : Nat), s.cfg.wf = true → s.cfg.hasHb = true → t < 2 ^ s.cfg.timeW →
    exec (.hbAdvance t) s = .next { s with seq := (s.seq + 1) % 2 ^ s.cfg.seqW, last := t } ∧
    (s.seq = 2 ^ s.cfg.seqW - 1 → exec (.hbAdvance t) s = .next { s with seq := 0, last := t })

/-- R115. -/
def Obligations.HbDiagRecordsTheEmission : Prop :=
  ∀ s : State, s.cfg.wf = true → s.cfg.hasHb = true →
    exec .hbDiag s = .next { s with diaglog := s.diaglog ++ [.heartbeatSent] }

/-- R116: in its one-function form, with what `F` and `ACC` hold after it (R156); and, when due, as the five steps in the
source's order, one sample for both its uses. -/
def Obligations.HeartbeatIsOneFunctionOfTheSample : Prop :=
  ∀ s : State, s.cfg.wf = true → s.cfg.hasHb = true → s.now < 2 ^ s.cfg.timeW →
    let g := [BitVec.ofNat 8 s.seq, s.cfg.localId, s.cfg.collectorId, s.cfg.hbFunc, 0x00#8, 0x00#8, 0x00#8]
    exec .heartbeat s = .next (
      if s.cfg.hbInterval ≤ elapsed s.cfg.timeW s.now s.last then
        { s with
          f := ⟨BitVec.ofNat 8 s.seq, s.cfg.localId, s.cfg.collectorId, s.cfg.hbFunc, 0x00#8, 0x00#8, 0x00#8, crcBuf g⟩,
          acc := crcBuf g, txlog := s.txlog ++ [g, [crcBuf g]],
          seq := (s.seq + 1) % 2 ^ s.cfg.seqW, last := s.now, diaglog := s.diaglog ++ [.heartbeatSent] }
      else s) ∧
    (s.cfg.hbInterval ≤ elapsed s.cfg.timeW s.now s.last →
      [Instr.hbCheck, .hbBuild, .hbTx, .hbAdvance s.now, .hbDiag].foldl
        (fun m i => afterwards m (exec i)) (.next s) = exec .heartbeat s)

/-- R156: the two outcome rows where their conditions hold; `HEARTBEAT` is the one that holds. -/
def Obligations.HeartbeatOutcomesHaveTheirEffects : Prop :=
  ∀ s : State, s.cfg.wf = true → s.cfg.hasHb = true →
    (elapsed s.cfg.timeW s.now s.last < s.cfg.hbInterval →
      exec .hbIdle s = .next s ∧ exec .heartbeat s = exec .hbIdle s) ∧
    (s.cfg.hbInterval ≤ elapsed s.cfg.timeW s.now s.last →
      exec .hbEmit s = .next { s with
        f := heartbeatFrame s.cfg s.seq, acc := (heartbeatFrame s.cfg s.seq).chk,
        txlog := s.txlog ++ [(heartbeatFrame s.cfg s.seq).header, [(heartbeatFrame s.cfg s.seq).chk]],
        seq := (s.seq + 1) % 2 ^ s.cfg.seqW, last := s.now % 2 ^ s.cfg.timeW,
        diaglog := s.diaglog ++ [.heartbeatSent] } ∧
      exec .heartbeat s = exec .hbEmit s)

/-- R3, R119: variant 1 has no heartbeat operation; its iteration is `RELAY` alone and touches neither the originator's
state nor the log of heartbeats. -/
def Obligations.VariantOneHasNoHeartbeat : Prop :=
  ∀ s : State, s.cfg.wf = true → s.cfg.hasHb = false →
    (∀ (i : Instr) (t : Nat), i ∈ [Instr.hbCheck, .hbBuild, .hbTx, .hbAdvance t, .hbDiag, .heartbeat, .hbIdle, .hbEmit] →
      exec i s = .refused .heartbeatAbsent) ∧
    ∃ u, exec .loopIter s = .next u ∧ exec .relay s = .next u ∧
      u.seq = s.seq ∧ u.last = s.last ∧ heartbeatCount u.diaglog = heartbeatCount s.diaglog

/-- R117: whatever time has passed, a check sends one heartbeat; the next is sent at the first later sample at least
`HB_INTERVAL` after it, by the samples. -/
def Obligations.MissedIntervalsAreNotMadeUp : Prop :=
  ∀ (s u : State) (t' : Nat), s.cfg.hasHb = true → s.now < 2 ^ s.cfg.timeW → t' < 2 ^ s.cfg.timeW →
    s.cfg.hbInterval ≤ elapsed s.cfg.timeW s.now s.last → exec .heartbeat s = .next u →
    heartbeatCount u.diaglog = heartbeatCount s.diaglog + 1 ∧ u.last = s.now ∧
    ∃ v, exec .heartbeat { u with now := t' } = .next v ∧
      heartbeatCount v.diaglog =
        heartbeatCount u.diaglog + (if s.cfg.hbInterval ≤ elapsed s.cfg.timeW t' s.now then 1 else 0)

/-- R112, R113, R72 (95_test_vectors P4): the two write units of a heartbeat, joined, are a frame the collector relays. -/
def Obligations.CollectorRelaysAHeartbeat : Prop :=
  ∀ (a b u : State) (rest : List Byte), a.cfg.wf = true → a.cfg.hasHb = true → b.cfg.wf = true →
    b.cfg.localId = a.cfg.collectorId → exec .hbEmit a = .next u →
    b.rxq = (u.txlog.drop a.txlog.length).flatten ++ rest →
    ∃ t, exec .relay b = .next t ∧ t.rxq = rest ∧
      t.txlog = b.txlog ++ [(stamped b.cfg (heartbeatFrame a.cfg a.seq)).toBytes]

/-! ### The polling loop -/

/-- R125, R145: `RELAY`, however it ends, then `HEARTBEAT` in variant 2. -/
def Obligations.LoopIterIsRelayThenHeartbeat : Prop :=
  ∀ s : State, s.cfg.wf = true →
    ∃ t u, exec .relay s = .next t ∧ exec .loopIter s = .next u ∧
      (s.cfg.hasHb = true → exec .heartbeat t = .next u) ∧ (s.cfg.hasHb = false → u = t)

/-- R127: what one iteration takes and gives. -/
def Obligations.IterationMovesAtMostOneFrameAndOneHeartbeat : Prop :=
  ∀ s : State, s.cfg.wf = true →
    ∃ (t : State) (units : List (List Byte)) (records : List DiagRecord), exec .loopIter s = .next t ∧
      (t.rxq = s.rxq ∧ s.rxq.length < 8 ∨ t.rxq = s.rxq.drop 8 ∧ 8 ≤ s.rxq.length) ∧
      t.txlog = s.txlog ++ units ∧ units.map List.length ∈ [[], [8], [7, 1], [8, 7, 1]] ∧
      t.diaglog = s.diaglog ++ records ∧ records.length ≤ 2

/-- R126: bytes that arrive while a frame is handled are seen by the next iteration as if they had come after it. -/
def Obligations.BytesArrivingDuringAnIterationWait : Prop :=
  ∀ (s t : State) (bs : List Byte), 8 ≤ s.rxq.length → exec .loopIter s = .next t →
    exec .loopIter (appendRx bs s) = .next (appendRx bs t)

/-- R52, R53, R30, R31, R29: no operation or outcome writes the configuration, the clock or what the environment has in
store; bytes leave `RXQ` from its head, eight or none; nothing leaves the two logs. -/
def Obligations.OperationsOnlyPopInputAndAppendOutput : Prop :=
  ∀ (i : Instr) (s t : State), exec i s = .next t →
    t.cfg = s.cfg ∧ t.now = s.now ∧ t.script = s.script ∧ t.draws = s.draws ∧
    (t.rxq = s.rxq ∨ t.rxq = s.rxq.drop 8 ∧ 8 ≤ s.rxq.length) ∧
    s.txlog <+: t.txlog ∧ s.diaglog <+: t.diaglog

/-- R24, R25, R151: `SEQ` and `LAST` are written by `HB.ADVANCE` only, on its own or inside `HEARTBEAT`. -/
def Obligations.OnlyTheAdvanceWritesSeqAndLast : Prop :=
  ∀ (i : Instr) (s t : State), exec i s = .next t →
    (∀ n, i ≠ .hbAdvance n) → i ≠ .heartbeat → i ≠ .hbEmit → i ≠ .loopIter →
    t.seq = s.seq ∧ t.last = s.last

/-- R30, R97, R113: only `TX.FWD` and `HB.TX` write the outbound stream, on their own or inside an operation or outcome
that runs them. -/
def Obligations.OnlyTheTransmitStepsWriteTheWire : Prop :=
  ∀ (i : Instr) (s t : State), exec i s = .next t →
    i ≠ .txFwd → i ≠ .hbTx → i ≠ .relay → (∀ f, i ≠ .relayFwd f) → i ≠ .heartbeat → i ≠ .hbEmit → i ≠ .loopIter →
    t.txlog = s.txlog

/-! ### The step, reset and whole-machine rules -/

/-- R129, R160 and log 5: what one step of the machine is, for each event and for no event. -/
def Obligations.StepIsAnEnvironmentEventOrOneIteration : Prop :=
  ∀ (s : State) (es : List EnvEvent), s.cfg.wf = true →
    (s.script = .reset :: es → step s = .next { State.resetWith s.cfg with script := es, draws := s.draws }) ∧
    (∀ bs, s.script = .rx bs :: es → step s = .next { s with rxq := s.rxq ++ bs, script := es }) ∧
    (∀ t, s.script = .iter t :: es → s.cfg.hasHb = true →
      step s = exec .loopIter { s with now := t % 2 ^ s.cfg.timeW, script := es }) ∧
    (∀ t, s.script = .iter t :: es → s.cfg.hasHb = false → step s = exec .loopIter { s with script := es }) ∧
    (s.script = [] → s.cfg.hasHb = true →
      step s = exec .loopIter { s with rxq := s.rxq ++ Config.freeRx s.draws,
                                       now := Config.freeNow s.draws % 2 ^ s.cfg.timeW, draws := s.draws + 1 }) ∧
    (s.script = [] → s.cfg.hasHb = false →
      step s = exec .loopIter { s with rxq := s.rxq ++ Config.freeRx s.draws, draws := s.draws + 1 })

/-- A step runs the decoded instruction: when the head of the stream decodes to `i`, a step in which the unit iterates
runs `i`, and after it `HEARTBEAT` in variant 2. -/
def Obligations.StepRunsTheDecodedOutcome : Prop :=
  ∀ (s : State) (t : Nat) (es : List EnvEvent) (i : Instr) (rest : List Byte),
    s.script = .iter t :: es → decode s.cfg s.rxq = .instr i rest →
    step s = afterwards (exec i (takeSample t { s with script := es }))
      (fun u => if u.cfg.hasHb = true then exec .heartbeat u else .next u)

/-- R156, R128: on a well-formed configuration the machine runs for ever, whatever the environment does, and the
configuration stays. -/
def Obligations.WellFormedMachineNeverStops : Prop :=
  ∀ (n : Nat) (s : State), s.cfg.wf = true → ∃ t, Host.Core.run core n s = .next t ∧ t.cfg = s.cfg

/-- R68, R163 (a): a configuration outside the legal range has no behaviour. That each failed check of `Config.wf`, the one of
`LAST_RESET` among them, refuses every operation is log 9 (DEDUCED). -/
def Obligations.IllFormedConfigurationIsRefused : Prop :=
  (∀ (s : State), s.cfg.wf = false →
    step s = .refused .illFormedConfig ∧ ∀ i, exec i s = .refused .illFormedConfig) ∧
  (∀ c : Config, c.localId.toNat = 0 ∨ 8 ≤ c.localId.toNat → c.wf = false)

/-- R36, R160: what reset leaves, in every configuration. -/
def Obligations.ResetLeavesTheSpecValues : Prop :=
  ∀ c : Config,
    (State.resetWith c).seq = 1 ∧ (State.resetWith c).last = c.lastReset ∧ (State.resetWith c).rxq = c.rxqReset ∧
    (State.resetWith c).txlog = [] ∧ (State.resetWith c).diaglog = [] ∧ (State.resetWith c).cfg = c ∧
    State.reset = State.resetWith Config.nominal

/-- The invariant holds after reset, in every well-formed configuration, the nominal one among them. -/
def Obligations.ResetMeetsTheInvariant : Prop :=
  (∀ c : Config, c.wf = true → UnitInv (State.resetWith c)) ∧ UnitInv State.reset

/-- HEADLINE (R132, R120, R102 (c), R53): from every state that meets the invariant, every step of the machine, whatever
the environment does, meets it again: registers fit their widths, the outbound stream is what the diagnostic log reports,
the k-th heartbeat carries ID k mod 256, every forwarded frame is valid and marked. -/
def Obligations.EveryStepKeepsTheInvariant : Prop :=
  ∀ s t : State, UnitInv s → step s = .next t → UnitInv t

/-- R120: two units alike but for `SEQ_W` stay so, step by step; nothing on the wire tells them apart. -/
def Obligations.SequenceWidthIsInvisible : Prop :=
  ∀ s t s' : State, s.cfg.wf = true → t.cfg.wf = true → SameButSeqWidth s t → step s = .next s' →
    ∃ t', step t = .next t' ∧ SameButSeqWidth s' t' ∧ t'.txlog = s'.txlog ∧ t'.diaglog = s'.diaglog

/-- R44, R104: frames are counted off the stream by eights: n iterations make the relay's records of the first n groups, in
order, and leave the rest of the stream. -/
def Obligations.FramesAreCountedOffByEights : Prop :=
  ∀ (n : Nat) (s : State), s.cfg.wf = true → 8 * n ≤ s.rxq.length →
    ∃ t, iterate n s = .next t ∧ t.rxq = s.rxq.drop (8 * n) ∧
      t.diaglog.filter DiagRecord.ofRelay =
        s.diaglog.filter DiagRecord.ofRelay ++
          (List.range n).flatMap (fun k => relayRecord s.cfg (s.rxq.drop (8 * k)))

/-- R130: every complete frame that waits is handled after as many iterations as there are; fewer than eight bytes stay
for ever. -/
def Obligations.WaitingFramesAreAllHandled : Prop :=
  ∀ (n : Nat) (s : State), s.cfg.wf = true → s.rxq.length / 8 ≤ n →
    ∃ t, iterate n s = .next t ∧ t.rxq = s.rxq.drop (8 * (s.rxq.length / 8)) ∧ t.rxq.length < 8

/-- R22, R23 (source text: no frame "is persisted across loop iterations"; the codec has "no hidden state"): what `F` and
`ACC` held before `RELAY`, `HEARTBEAT` or a step can show in `F` and `ACC` only. -/
def Obligations.StaleBufferAndAccumulatorAreNeverRead : Prop :=
  ∀ (s t : State) (f : Frame) (a : Byte),
    (exec .relay s = .next t → ∃ g b, exec .relay { s with f := f, acc := a } = .next { t with f := g, acc := b }) ∧
    (exec .heartbeat s = .next t →
      ∃ g b, exec .heartbeat { s with f := f, acc := a } = .next { t with f := g, acc := b }) ∧
    (step s = .next t → ∃ g b, step { s with f := f, acc := a } = .next { t with f := g, acc := b })
end

