-- ==== Sys2Proof/Laws/Codec.lean ====
section
/-! SUPPORT. The small lemmas of the checksum, the frame's byte lists and the decoder. -/

namespace Sys2Proof

@[simp] theorem crcFrom_nil (a : Byte) : crcFrom a [] = a := rfl

@[simp] theorem crcFrom_cons (a b : Byte) (l : List Byte) : crcFrom a (b :: l) = crcFrom (crcByte a b) l := rfl

theorem crcFrom_append (a : Byte) (l m : List Byte) : crcFrom a (l ++ m) = crcFrom (crcFrom a l) m := by
  induction l generalizing a with
  | nil => rfl
  | cons b l ih => exact ih _

theorem crcFrom_eq_foldl (a : Byte) (l : List Byte) : crcFrom a l = l.foldl crcByte a := by
  induction l generalizing a with
  | nil => rfl
  | cons b l ih => exact ih _

theorem crcRounds_eq_iterate (n : Nat) (a : Byte) : crcRounds n a = crcRound^[n] a := by
  induction n generalizing a with
  | zero => rfl
  | succ n ih => exact ih _

theorem Frame.toBytes_eq_header (f : Frame) : f.toBytes = f.header ++ [f.chk] := rfl

@[simp] theorem Frame.length_toBytes (f : Frame) : f.toBytes.length = 8 := rfl

@[simp] theorem Frame.length_header (f : Frame) : f.header.length = 7 := rfl

theorem Frame.toBytes_injective {f g : Frame} (h : f.toBytes = g.toBytes) : f = g := by
  cases f; cases g; simp_all [Frame.toBytes]

/-- Restamping does not change what the checksum reads. -/
@[simp] theorem Frame.header_sealed (f : Frame) : f.sealed.header = f.header := rfl

theorem Frame.valid_iff (f : Frame) : f.valid = true ↔ f.chk = crcBuf f.header := by
  simp [Frame.valid, Frame.crc]

@[simp] theorem Frame.valid_sealed (f : Frame) : f.sealed.valid = true := by
  simp [Frame.valid, Frame.crc, Frame.sealed, Frame.header]

/-- Counting to eight reads exactly the eight bytes of the frame. -/
@[simp] theorem takeFrame_toBytes (f : Frame) (rest : List Byte) : takeFrame (f.toBytes ++ rest) = some (f, rest) := rfl

theorem takeFrame_eq_some {bs rest : List Byte} {f : Frame} :
    takeFrame bs = some (f, rest) ↔ bs = f.toBytes ++ rest := by
  constructor
  · intro h
    unfold takeFrame at h
    split at h
    · cases h; rfl
    · cases h
  · rintro rfl; rfl

theorem takeFrame_eq_none {bs : List Byte} : takeFrame bs = none ↔ bs.length < 8 := by
  constructor
  · intro h
    unfold takeFrame at h
    split at h
    · cases h
    · rename_i hne
      match bs with
      | [] | [_] | [_, _] | [_, _, _] | [_, _, _, _] | [_, _, _, _, _] | [_, _, _, _, _, _] | [_, _, _, _, _, _, _] =>
        simp
      | b0 :: b1 :: b2 :: b3 :: b4 :: b5 :: b6 :: b7 :: rest => exact (hne _ _ _ _ _ _ _ _ _ rfl).elim
  · intro h
    cases hb : takeFrame bs with
    | none => rfl
    | some p =>
      rw [takeFrame_eq_some.mp hb] at h
      simp at h

/-- A stream of eight bytes or more begins with a frame. -/
theorem exists_frame_of_length {bs : List Byte} (h : 8 ≤ bs.length) : ∃ f : Frame, bs = f.toBytes ++ bs.drop 8 := by
  cases hb : takeFrame bs with
  | none => exact absurd (takeFrame_eq_none.mp hb) (by omega)
  | some p =>
    obtain ⟨f, rest⟩ := p
    have hbs := takeFrame_eq_some.mp hb
    refine ⟨f, ?_⟩
    rw [hbs]; rfl

end Sys2Proof
end

