-- ==== Sys2Proof/Laws/State.lean ====
section
/-! SUPPORT. One lemma per field per update of the state. -/

namespace Sys2Proof.Machine

variable (s : State)

/-! ### `setFrame` -/

@[simp] theorem setFrame_cfg (g : Frame) : (setFrame g s).cfg = s.cfg := rfl
@[simp] theorem setFrame_f (g : Frame) : (setFrame g s).f = g := rfl
@[simp] theorem setFrame_acc (g : Frame) : (setFrame g s).acc = s.acc := rfl
@[simp] theorem setFrame_seq (g : Frame) : (setFrame g s).seq = s.seq := rfl
@[simp] theorem setFrame_last (g : Frame) : (setFrame g s).last = s.last := rfl
@[simp] theorem setFrame_now (g : Frame) : (setFrame g s).now = s.now := rfl
@[simp] theorem setFrame_rxq (g : Frame) : (setFrame g s).rxq = s.rxq := rfl
@[simp] theorem setFrame_txlog (g : Frame) : (setFrame g s).txlog = s.txlog := rfl
@[simp] theorem setFrame_diaglog (g : Frame) : (setFrame g s).diaglog = s.diaglog := rfl
@[simp] theorem setFrame_script (g : Frame) : (setFrame g s).script = s.script := rfl
@[simp] theorem setFrame_draws (g : Frame) : (setFrame g s).draws = s.draws := rfl

/-! ### `setAcc` -/

@[simp] theorem setAcc_cfg (a : Byte) : (setAcc a s).cfg = s.cfg := rfl
@[simp] theorem setAcc_f (a : Byte) : (setAcc a s).f = s.f := rfl
@[simp] theorem setAcc_acc (a : Byte) : (setAcc a s).acc = a := rfl
@[simp] theorem setAcc_seq (a : Byte) : (setAcc a s).seq = s.seq := rfl
@[simp] theorem setAcc_last (a : Byte) : (setAcc a s).last = s.last := rfl
@[simp] theorem setAcc_now (a : Byte) : (setAcc a s).now = s.now := rfl
@[simp] theorem setAcc_rxq (a : Byte) : (setAcc a s).rxq = s.rxq := rfl
@[simp] theorem setAcc_txlog (a : Byte) : (setAcc a s).txlog = s.txlog := rfl
@[simp] theorem setAcc_diaglog (a : Byte) : (setAcc a s).diaglog = s.diaglog := rfl
@[simp] theorem setAcc_script (a : Byte) : (setAcc a s).script = s.script := rfl
@[simp] theorem setAcc_draws (a : Byte) : (setAcc a s).draws = s.draws := rfl

/-! ### `setOriginator` -/

@[simp] theorem setOriginator_cfg (n t : Nat) : (setOriginator n t s).cfg = s.cfg := rfl
@[simp] theorem setOriginator_f (n t : Nat) : (setOriginator n t s).f = s.f := rfl
@[simp] theorem setOriginator_acc (n t : Nat) : (setOriginator n t s).acc = s.acc := rfl
@[simp] theorem setOriginator_seq (n t : Nat) : (setOriginator n t s).seq = n := rfl
@[simp] theorem setOriginator_last (n t : Nat) : (setOriginator n t s).last = t := rfl
@[simp] theorem setOriginator_now (n t : Nat) : (setOriginator n t s).now = s.now := rfl
@[simp] theorem setOriginator_rxq (n t : Nat) : (setOriginator n t s).rxq = s.rxq := rfl
@[simp] theorem setOriginator_txlog (n t : Nat) : (setOriginator n t s).txlog = s.txlog := rfl
@[simp] theorem setOriginator_diaglog (n t : Nat) : (setOriginator n t s).diaglog = s.diaglog := rfl
@[simp] theorem setOriginator_script (n t : Nat) : (setOriginator n t s).script = s.script := rfl
@[simp] theorem setOriginator_draws (n t : Nat) : (setOriginator n t s).draws = s.draws := rfl

/-! ### `setRxq` -/

@[simp] theorem setRxq_cfg (l : List Byte) : (setRxq l s).cfg = s.cfg := rfl
@[simp] theorem setRxq_f (l : List Byte) : (setRxq l s).f = s.f := rfl
@[simp] theorem setRxq_acc (l : List Byte) : (setRxq l s).acc = s.acc := rfl
@[simp] theorem setRxq_seq (l : List Byte) : (setRxq l s).seq = s.seq := rfl
@[simp] theorem setRxq_last (l : List Byte) : (setRxq l s).last = s.last := rfl
@[simp] theorem setRxq_now (l : List Byte) : (setRxq l s).now = s.now := rfl
@[simp] theorem setRxq_rxq (l : List Byte) : (setRxq l s).rxq = l := rfl
@[simp] theorem setRxq_txlog (l : List Byte) : (setRxq l s).txlog = s.txlog := rfl
@[simp] theorem setRxq_diaglog (l : List Byte) : (setRxq l s).diaglog = s.diaglog := rfl
@[simp] theorem setRxq_script (l : List Byte) : (setRxq l s).script = s.script := rfl
@[simp] theorem setRxq_draws (l : List Byte) : (setRxq l s).draws = s.draws := rfl

/-! ### `txWrite` -/

@[simp] theorem txWrite_cfg (l : List Byte) : (txWrite l s).cfg = s.cfg := rfl
@[simp] theorem txWrite_f (l : List Byte) : (txWrite l s).f = s.f := rfl
@[simp] theorem txWrite_acc (l : List Byte) : (txWrite l s).acc = s.acc := rfl
@[simp] theorem txWrite_seq (l : List Byte) : (txWrite l s).seq = s.seq := rfl
@[simp] theorem txWrite_last (l : List Byte) : (txWrite l s).last = s.last := rfl
@[simp] theorem txWrite_now (l : List Byte) : (txWrite l s).now = s.now := rfl
@[simp] theorem txWrite_rxq (l : List Byte) : (txWrite l s).rxq = s.rxq := rfl
@[simp] theorem txWrite_txlog (l : List Byte) : (txWrite l s).txlog = s.txlog ++ [l] := rfl
@[simp] theorem txWrite_diaglog (l : List Byte) : (txWrite l s).diaglog = s.diaglog := rfl
@[simp] theorem txWrite_script (l : List Byte) : (txWrite l s).script = s.script := rfl
@[simp] theorem txWrite_draws (l : List Byte) : (txWrite l s).draws = s.draws := rfl

/-! ### `diag` -/

@[simp] theorem diag_cfg (r : DiagRecord) : (diag r s).cfg = s.cfg := rfl
@[simp] theorem diag_f (r : DiagRecord) : (diag r s).f = s.f := rfl
@[simp] theorem diag_acc (r : DiagRecord) : (diag r s).acc = s.acc := rfl
@[simp] theorem diag_seq (r : DiagRecord) : (diag r s).seq = s.seq := rfl
@[simp] theorem diag_last (r : DiagRecord) : (diag r s).last = s.last := rfl
@[simp] theorem diag_now (r : DiagRecord) : (diag r s).now = s.now := rfl
@[simp] theorem diag_rxq (r : DiagRecord) : (diag r s).rxq = s.rxq := rfl
@[simp] theorem diag_txlog (r : DiagRecord) : (diag r s).txlog = s.txlog := rfl
@[simp] theorem diag_diaglog (r : DiagRecord) : (diag r s).diaglog = s.diaglog ++ [r] := rfl
@[simp] theorem diag_script (r : DiagRecord) : (diag r s).script = s.script := rfl
@[simp] theorem diag_draws (r : DiagRecord) : (diag r s).draws = s.draws := rfl

/-! ### `appendRx` -/

@[simp] theorem appendRx_cfg (l : List Byte) : (appendRx l s).cfg = s.cfg := rfl
@[simp] theorem appendRx_f (l : List Byte) : (appendRx l s).f = s.f := rfl
@[simp] theorem appendRx_acc (l : List Byte) : (appendRx l s).acc = s.acc := rfl
@[simp] theorem appendRx_seq (l : List Byte) : (appendRx l s).seq = s.seq := rfl
@[simp] theorem appendRx_last (l : List Byte) : (appendRx l s).last = s.last := rfl
@[simp] theorem appendRx_now (l : List Byte) : (appendRx l s).now = s.now := rfl
@[simp] theorem appendRx_rxq (l : List Byte) : (appendRx l s).rxq = s.rxq ++ l := rfl
@[simp] theorem appendRx_txlog (l : List Byte) : (appendRx l s).txlog = s.txlog := rfl
@[simp] theorem appendRx_diaglog (l : List Byte) : (appendRx l s).diaglog = s.diaglog := rfl
@[simp] theorem appendRx_script (l : List Byte) : (appendRx l s).script = s.script := rfl
@[simp] theorem appendRx_draws (l : List Byte) : (appendRx l s).draws = s.draws := rfl

/-! ### `takeSample` -/

@[simp] theorem takeSample_cfg (t : Nat) : (takeSample t s).cfg = s.cfg := by
  unfold takeSample; split <;> rfl
@[simp] theorem takeSample_f (t : Nat) : (takeSample t s).f = s.f := by
  unfold takeSample; split <;> rfl
@[simp] theorem takeSample_acc (t : Nat) : (takeSample t s).acc = s.acc := by
  unfold takeSample; split <;> rfl
@[simp] theorem takeSample_seq (t : Nat) : (takeSample t s).seq = s.seq := by
  unfold takeSample; split <;> rfl
@[simp] theorem takeSample_last (t : Nat) : (takeSample t s).last = s.last := by
  unfold takeSample; split <;> rfl
@[simp] theorem takeSample_now (t : Nat) : (takeSample t s).now = if s.cfg.hasHb = true then t % 2 ^ s.cfg.timeW else s.now := by
  unfold takeSample; split <;> rfl
@[simp] theorem takeSample_rxq (t : Nat) : (takeSample t s).rxq = s.rxq := by
  unfold takeSample; split <;> rfl
@[simp] theorem takeSample_txlog (t : Nat) : (takeSample t s).txlog = s.txlog := by
  unfold takeSample; split <;> rfl
@[simp] theorem takeSample_diaglog (t : Nat) : (takeSample t s).diaglog = s.diaglog := by
  unfold takeSample; split <;> rfl
@[simp] theorem takeSample_script (t : Nat) : (takeSample t s).script = s.script := by
  unfold takeSample; split <;> rfl
@[simp] theorem takeSample_draws (t : Nat) : (takeSample t s).draws = s.draws := by
  unfold takeSample; split <;> rfl

/-! ### `resetUnit` -/

@[simp] theorem resetUnit_cfg : (resetUnit s).cfg = s.cfg := rfl
@[simp] theorem resetUnit_f : (resetUnit s).f = Frame.cleared := rfl
@[simp] theorem resetUnit_acc : (resetUnit s).acc = 0#8 := rfl
@[simp] theorem resetUnit_seq : (resetUnit s).seq = 1 := rfl
@[simp] theorem resetUnit_last : (resetUnit s).last = s.cfg.lastReset := rfl
@[simp] theorem resetUnit_now : (resetUnit s).now = 0 := rfl
@[simp] theorem resetUnit_rxq : (resetUnit s).rxq = s.cfg.rxqReset := rfl
@[simp] theorem resetUnit_txlog : (resetUnit s).txlog = [] := rfl
@[simp] theorem resetUnit_diaglog : (resetUnit s).diaglog = [] := rfl
@[simp] theorem resetUnit_script : (resetUnit s).script = s.script := rfl
@[simp] theorem resetUnit_draws : (resetUnit s).draws = s.draws := rfl

end Sys2Proof.Machine
end

