-- ==== Sys2Proof/Laws/Ops.lean ====
section
/-! SUPPORT. What each shared operation can do, said once; later proofs cite these and do not unfold the operation. -/

namespace Sys2Proof.Machine

/-! ### The checks of every meaning -/

@[simp] theorem onUnit_of_wf {s : State} {k} (h : s.cfg.wf = true) : onUnit s k = k s := by simp [onUnit, h]

theorem onUnit_of_not_wf {s : State} {k} (h : s.cfg.wf = false) : onUnit s k = .refused .illFormedConfig := by
  simp [onUnit, h]

/-- A meaning that answers ran in a well-formed configuration. -/
theorem onUnit_eq_next {s t : State} {k} : onUnit s k = .next t ↔ s.cfg.wf = true ∧ k s = .next t := by
  unfold onUnit; split <;> simp_all

@[simp] theorem onOriginator_of_variant2 {s : State} {k} (h : s.cfg.wf = true) (h2 : s.cfg.hasHb = true) :
    onOriginator s k = k s := by simp [onOriginator, h, h2]

/-- A heartbeat operation that answers ran in variant 2. -/
theorem onOriginator_eq_next {s t : State} {k} :
    onOriginator s k = .next t ↔ s.cfg.wf = true ∧ s.cfg.hasHb = true ∧ k s = .next t := by
  unfold onOriginator; rw [onUnit_eq_next]; split <;> simp_all

/-- An outcome row that answers has its condition. -/
theorem onOutcome_eq_next {b : Bool} {s t : State} : onOutcome b s = .next t ↔ b = true ∧ s = t := by
  cases b <;> simp [onOutcome]

@[simp] theorem afterwards_next (s : State) (k) : afterwards (.next s) k = k s := rfl

/-! ### Flow -/

@[simp] theorem andThen_go {ω : Type} (s : State) (k : State → Flow ω) : (Flow.go s).andThen k = k s := rfl

@[simp] theorem andThen_ended {ω : Type} (o : ω) (s : State) (k : State → Flow ω) :
    (Flow.ended o s).andThen k = .ended o s := rfl

@[simp] theorem andThen_fault {ω : Type} (r : Fault) (k : State → Flow ω) :
    (Flow.fault r).andThen k = .fault r := rfl

@[simp] theorem answer_go {ω : Type} (s : State) : (Flow.go s : Flow ω).answer = .next s := rfl

@[simp] theorem answer_ended {ω : Type} (o : ω) (s : State) : (Flow.ended o s).answer = .next s := rfl

@[simp] theorem answer_fault {ω : Type} (r : Fault) : (Flow.fault r : Flow ω).answer = .fault r := rfl

/-! ### The steps of `RELAY` -/

theorem rxPoll_of_ready {s : State} (h : 8 ≤ s.rxq.length) : rxPoll s = .go s := by
  simp [rxPoll, rxReady, rxAvail, h]

theorem rxPoll_of_short {s : State} (h : s.rxq.length < 8) : rxPoll s = .ended .idle s := by
  simp [rxPoll, rxReady, rxAvail, Nat.not_le.mpr h]

theorem rxAssemble_of_frame {s : State} {f : Frame} {rest : List Byte} (h : s.rxq = f.toBytes ++ rest) :
    rxAssemble s = .go (setRxq rest (setFrame f s)) := by simp [rxAssemble, h]

theorem rxAssemble_of_short {s : State} (h : s.rxq.length < 8) : rxAssemble s = .fault .rxPopEmpty := by
  simp [rxAssemble, takeFrame_eq_none.mpr h]

theorem chkVerify_of_valid {s : State} (h : s.f.valid = true) : chkVerify s = .go (setAcc s.f.crc s) := by
  have hk : chkOk (crc8Frame s) = true := by simp [chkOk, crc8Frame, crc8Buf, (Frame.valid_iff _).mp h]
  simp [chkVerify, hk]; rfl

theorem chkVerify_of_invalid {s : State} (h : s.f.valid = false) :
    chkVerify s = raise .checksumMismatch (setAcc s.f.crc s) := by
  have hk : chkOk (crc8Frame s) = false := by
    rw [← Bool.not_eq_true, Frame.valid_iff] at h
    simp [chkOk, crc8Frame, crc8Buf, Ne.symm h]
  simp [chkVerify, hk]; rfl

theorem dstMatch_of_local {s : State} (h : s.f.dst = s.cfg.localId) : dstMatch s = .go s := by
  simp [dstMatch, dstMatches, h]

theorem dstMatch_of_foreign {s : State} (h : s.f.dst ≠ s.cfg.localId) : dstMatch s = raise .notAddressedHere s := by
  simp [dstMatch, dstMatches, h]

/-- The drop sequence (R144) ends `RELAY` with one record and touches nothing else. -/
theorem raise_eq (e : ErrorKind) (s : State) : raise e s = .ended e.outcome (diag e.record s) := rfl

/-! ### The steps of `HEARTBEAT` -/

theorem hbCheck_of_due {s : State} {t : Nat} (h : s.cfg.hbInterval ≤ elapsed s.cfg.timeW t s.last) :
    hbCheck t s = .go s := by simp [hbCheck, hbDue, h]

theorem hbCheck_of_not_due {s : State} {t : Nat} (h : elapsed s.cfg.timeW t s.last < s.cfg.hbInterval) :
    hbCheck t s = .ended .idle s := by simp [hbCheck, hbDue, Nat.not_le.mpr h]

/-! ### The decoder -/

theorem selects_iff {s : State} {i : Instr} {rest : List Byte} :
    selects s i rest = true ↔ decode s.cfg s.rxq = .instr i rest := by simp [selects]

theorem decode_of_short {c : Config} {bs : List Byte} (hc : c.wf = true) (h : bs.length < 8) :
    decode c bs = .instr .relayIdle bs := by simp [decode, hc, takeFrame_eq_none.mpr h]

theorem decode_of_frame {c : Config} (f : Frame) (rest : List Byte) (hc : c.wf = true) :
    decode c (f.toBytes ++ rest) = .instr (classify c f) rest := by simp [decode, hc]

/-! ### Dispatch -/

/-- Every operation and outcome that answers did so in a well-formed configuration (R68). -/
theorem wf_of_exec_eq_next {i : Instr} {s t : State} (h : exec i s = .next t) : s.cfg.wf = true := by
  cases i <;> simp only [exec, execCrc8Round, execCrc8Byte, execCrc8Buf, execCrc8Frame, execRxPoll, execRxAssemble,
    execChkVerify, execDstMatch, execPathStamp, execSrcStamp, execChkStamp, execTxFwd, execDiagFwd, execRelay,
    execRelayIdle, execRelayDropChk, execRelayDropDst, execRelayFwd, execHbCheck, execHbBuild, execHbTx, execHbAdvance,
    execHbDiag, execHeartbeat, execHbIdle, execHbEmit, execLoopIter, onUnit_eq_next, onOriginator_eq_next] at h <;>
    exact h.1

/-- `HEARTBEAT` answers in variant 2 only (R3). -/
theorem variant2_of_heartbeat_eq_next {s t : State} (h : exec .heartbeat s = .next t) : s.cfg.hasHb = true := by
  simp only [exec, execHeartbeat, onOriginator_eq_next] at h
  exact h.2.1

/-! ### Step -/

/-- What a step that answers was: an environment event, or one iteration. -/
theorem step_eq_next {s t : State} (h : step s = .next t) :
    s.cfg.wf = true ∧ (nextTurn s = .environment t ∨ ∃ u, nextTurn s = .unit u ∧ exec .loopIter u = .next t) := by
  unfold step at h
  split at h
  · rename_i hc
    refine ⟨hc, ?_⟩
    cases hn : nextTurn s with
    | environment u => rw [hn] at h; simp at h; exact .inl (by rw [h])
    | unit u => rw [hn] at h; exact .inr ⟨u, rfl, h⟩
  · cases h

end Sys2Proof.Machine
end

