-- ==== Sys2Proof/Laws/PerInstr.lean ====
section
/-! SUPPORT. The family FrameLength: the bytes that select an instruction are one frame, eight bytes (spec 30_encoding R60,
R74: "Every frame is 8 bytes; there is no other length"). -/

namespace Sys2Proof.Laws.FrameLength

/-- An instruction that has bytes has eight. -/
def Statement (i : Instr) : Prop := ∀ bs, encode i = some bs → bs.length = 8

theorem crc8Round : Statement .crc8Round := nofun

theorem crc8Byte (b : Byte) : Statement (.crc8Byte b) := nofun

theorem crc8Buf (l : List Byte) : Statement (.crc8Buf l) := nofun

theorem crc8Frame : Statement .crc8Frame := nofun

theorem rxPoll : Statement .rxPoll := nofun

theorem rxAssemble : Statement .rxAssemble := nofun

theorem chkVerify : Statement .chkVerify := nofun

theorem dstMatch : Statement .dstMatch := nofun

theorem pathStamp : Statement .pathStamp := nofun

theorem srcStamp : Statement .srcStamp := nofun

theorem chkStamp : Statement .chkStamp := nofun

theorem txFwd : Statement .txFwd := nofun

theorem diagFwd : Statement .diagFwd := nofun

theorem relay : Statement .relay := nofun

theorem relayIdle : Statement .relayIdle := nofun

theorem relayDropChk (f : Frame) : Statement (.relayDropChk f) := by
  rintro _ h; cases h; rfl

theorem relayDropDst (f : Frame) : Statement (.relayDropDst f) := by
  rintro _ h; cases h; rfl

theorem relayFwd (f : Frame) : Statement (.relayFwd f) := by
  rintro _ h; cases h; rfl

theorem hbCheck : Statement .hbCheck := nofun

theorem hbBuild : Statement .hbBuild := nofun

theorem hbTx : Statement .hbTx := nofun

theorem hbAdvance (t : Nat) : Statement (.hbAdvance t) := nofun

theorem hbDiag : Statement .hbDiag := nofun

theorem heartbeat : Statement .heartbeat := nofun

theorem hbIdle : Statement .hbIdle := nofun

theorem hbEmit : Statement .hbEmit := nofun

theorem loopIter : Statement .loopIter := nofun

end Sys2Proof.Laws.FrameLength
end

