-- ==== Sys2Proof/Tests/Slice0.lean ====
section
/-! SUPPORT. Tests: well-formedness, words written out from the spec's encodings, one step each on vectors of
spec/95_test_vectors.md, and for every obligation with hypotheses a state and operands that meet them. -/

namespace Sys2Proof.Tests

set_option maxRecDepth 20000

open Sys2Proof.Machine

/-! ### Small states -/

/-- A unit right after reset, with `LOCAL_ID` and `HAS_HB` as given and every other parameter at its default. -/
def node (id : Byte) (hb : Bool) : State := State.resetWith { localId := id, hasHb := hb }

/-- A variant-2 unit of node 3 in which `bs` waits. -/
def waiting (bs : List Byte) : State := { node 3 true with rxq := bs }

/-- A variant-2 unit of node 3 whose buffer holds `f`. -/
def holding (f : Frame) : State := { node 3 true with f := f }

/-- A variant-2 unit of node 3 with `LAST` and the sample as given. -/
def timed (last now : Nat) : State := { node 3 true with last := last, now := now }

/-- The inbound frame of 95_test_vectors 1.1. -/
def inbound : Frame := ⟨0x01, 0x02, 0x03, 0x01, 0x00, 0x00, 0x00, 0x3D⟩

/-- The same frame as `RELAY` sends it (95_test_vectors 1.1). -/
def outbound : Frame := ⟨0x01, 0x03, 0x03, 0x01, 0x00, 0x00, 0x04, 0x08⟩

/-- The inbound frame with its checksum off by one bit (95_test_vectors 2.5). -/
def tampered : Frame := ⟨0x01, 0x02, 0x03, 0x01, 0x00, 0x00, 0x00, 0x3C⟩

/-- A valid frame for node 5 (95_test_vectors 1.2). -/
def foreign : Frame := ⟨0x01, 0x02, 0x05, 0x01, 0x00, 0x00, 0x00, 0x76⟩

/-- The first heartbeat of node 3 (95_test_vectors 1.3). -/
def firstBeat : Frame := ⟨0x01, 0x03, 0x07, 0x01, 0x00, 0x00, 0x00, 0x9B⟩

/-! ### Well-formedness: each check refuses a term that fails it alone (R68, R163, R3, R72) -/

theorem test_wf_every_legal_local_id :
    ∀ k : Fin 7, ({ localId := BitVec.ofNat 8 (k.val + 1), hasHb := true } : Config).wf = true := by decide

theorem test_wf_refuses_local_id_zero : ({ localId := 0, hasHb := true } : Config).wf = false := by decide

theorem test_wf_refuses_local_id_eight : ({ localId := 8, hasHb := false } : Config).wf = false := by decide

theorem test_wf_refuses_seq_w_seven : ({ localId := 3, hasHb := true, seqW := 7 } : Config).wf = false := by decide

theorem test_wf_refuses_interval_of_two_pow_time_w :
    ({ localId := 3, hasHb := true, hbInterval := 65536, timeW := 16 } : Config).wf = false := by decide

theorem test_wf_refuses_last_reset_of_two_pow_time_w :
    ({ localId := 3, hasHb := true, timeW := 16, lastReset := 65536 } : Config).wf = false := by decide

theorem test_wf_refuses_every_row_of_an_ill_formed_unit :
    Instr.wf { localId := 0, hasHb := true } .loopIter = false := by decide

theorem test_wf_refuses_originator_rows_in_variant_one :
    [Instr.hbCheck, .hbBuild, .hbTx, .hbAdvance 0, .hbDiag, .heartbeat, .hbIdle, .hbEmit].map
      (Instr.wf { localId := 3, hasHb := false }) = List.replicate 8 false := by decide

theorem test_wf_refuses_sample_too_wide :
    Instr.wf { localId := 3, hasHb := true } (.hbAdvance 4294967296) = false ∧
      Instr.wf { localId := 3, hasHb := true } (.hbAdvance 4294967295) = true := by decide

theorem test_wf_refuses_drop_chk_of_valid_frame : Instr.wf Config.nominal (.relayDropChk inbound) = false := by decide

theorem test_wf_refuses_drop_dst_of_local_or_invalid_frame :
    Instr.wf Config.nominal (.relayDropDst inbound) = false ∧
      Instr.wf Config.nominal (.relayDropDst { foreign with chk := 0x00 }) = false := by decide

theorem test_wf_refuses_fwd_of_foreign_or_invalid_frame :
    Instr.wf Config.nominal (.relayFwd foreign) = false ∧
      Instr.wf Config.nominal (.relayFwd tampered) = false := by decide

/-! ### Words written out from the encoding tables (R60, R80, R81, R83, D15) -/

/-- Frame relay, offset 0 first: ID 01, SRC 02, DST 03, FUNC 01, DATA 00 00, PATH 00, CHK 3D. -/
theorem test_decode_word_fwd :
    decodeTableWord 64
      0b00000001_00000010_00000011_00000001_00000000_00000000_00000000_00111101 = some (.relayFwd inbound) := by decide

theorem test_decode_word_drop_chk : decodeTableWord 64 0x010203010000003C = some (.relayDropChk tampered) := by decide

theorem test_decode_word_drop_dst : decodeTableWord 64 0x0102050100000076 = some (.relayDropDst foreign) := by decide

/-- A reserved or wildcard DST is no special encoding (R73, 95_test_vectors 2.5). -/
theorem test_decode_word_dst_ff :
    decodeTableWord 64 0x0102FF01000000A2 =
      some (.relayDropDst ⟨0x01, 0x02, 0xFF, 0x01, 0x00, 0x00, 0x00, 0xA2⟩) := by decide

theorem test_decode_no_bits : decodeTableWord 0 0 = some .relayIdle := by decide

/-- Frame codec: `aaaaaaaa` (R80), `aaaaaaaabbbbbbbb` (R81, `ACC` 07, b 02), offsets 0 to 6 (R83). -/
theorem test_decode_codec_patterns :
    decodeTableWord 8 0b10000000 = some .crc8Round ∧
      decodeTableWord 16 0b00000111_00000010 = some (.crc8Byte 0x02) ∧
      decodeTableWord 56 0x01020301000000 = some .crc8Frame := by decide

/-- Heartbeat: the frame of 95_test_vectors 1.3 as a word. -/
theorem test_encode_heartbeat_word : (heartbeatFrame Config.nominal 1).toWord = 0x010307010000009B#64 := by decide

theorem test_encode_outcome_bytes :
    encode (.relayFwd inbound) = some [0x01, 0x02, 0x03, 0x01, 0x00, 0x00, 0x00, 0x3D] := by decide

/-! ### Frame codec (95_test_vectors 2.1, 2.4) -/

/-- Bit 7 clear: a plain shift; the test is on the bit before the shift. -/
theorem test_round_bit7_clear :
    (answer? (exec .crc8Round { node 3 true with acc := 0x7F })).map (·.acc) = some 0xFE := by decide

/-- 81 gives 02 ^ 07. -/
theorem test_round_bit7_set :
    (answer? (exec .crc8Round { node 3 true with acc := 0x81 })).map (·.acc) = some 0x05 := by decide

theorem test_byte_second_of_scenario :
    (answer? (exec (.crc8Byte 0x02) { node 3 true with acc := 0x07 })).map (·.acc) = some 0x1B := by decide

/-- A zero byte still runs eight rounds. -/
theorem test_byte_zero_byte :
    (answer? (exec (.crc8Byte 0x00) { node 3 true with acc := 0xFF })).map (·.acc) = some 0xF3 := by decide

/-- The ASCII digits 1 to 9, from an accumulator that is not zero. -/
theorem test_buf_check_string :
    (answer? (exec (.crc8Buf [0x31, 0x32, 0x33, 0x34, 0x35, 0x36, 0x37, 0x38, 0x39])
      { node 3 true with acc := 0xAA })).map (·.acc) = some 0xF4 := by decide

theorem test_buf_empty : (answer? (exec (.crc8Buf []) { node 3 true with acc := 0xAA })).map (·.acc) = some 0x00 := by
  decide

/-- Offset 7 is not read. -/
theorem test_crc_frame :
    (answer? (exec .crc8Frame (holding { inbound with chk := 0xFF }))).map (·.acc) = some 0x3D := by decide

/-! ### Frame relay (95_test_vectors 1.1, 1.2, 2.5) -/

theorem test_poll_pops_nothing :
    (answer? (exec .rxPoll (waiting inbound.toBytes))).map (·.rxq) = some inbound.toBytes := by decide

theorem test_assemble_ninth_byte_stays :
    (answer? (exec .rxAssemble (waiting [0x01, 0x02, 0x03, 0x01, 0x00, 0x00, 0x00, 0x3D, 0x77]))).map
      (fun s => (s.f, s.rxq)) = some (inbound, [0x77]) := by decide

theorem test_assemble_seven_bytes :
    exec .rxAssemble (waiting [0x01, 0x02, 0x03, 0x01, 0x00, 0x00, 0x00]) = .fault .rxPopEmpty := by rfl

theorem test_verify_good : (answer? (exec .chkVerify (holding inbound))).map (fun s => (s.acc, s.diaglog)) =
    some (0x3D, []) := by decide

theorem test_verify_bad : (answer? (exec .chkVerify (holding tampered))).map (fun s => (s.acc, s.diaglog)) =
    some (0x3D, [.checksumMismatch]) := by decide

theorem test_match_local : (answer? (exec .dstMatch (holding inbound))).map (·.diaglog) = some [] := by decide

theorem test_match_foreign : (answer? (exec .dstMatch (holding foreign))).map (·.diaglog) =
    some [.notAddressedHere] := by decide

/-- PATH 81 keeps bits 0 and 7 and gains bit 2. -/
theorem test_path_stamp :
    (answer? (exec .pathStamp (holding ⟨0xA5, 0x09, 0x03, 0x7E, 0x12, 0x34, 0x81, 0xE0⟩))).map (·.f.path) =
      some 0x85 := by decide

/-- The highest legal identifier marks bit 6. -/
theorem test_path_stamp_node_seven :
    (answer? (exec .pathStamp { node 7 true with f := firstBeat })).map (·.f.path) = some 0x40 := by decide

theorem test_src_stamp : (answer? (exec .srcStamp (holding { inbound with path := 0x04 }))).map (·.f) =
    some ⟨0x01, 0x03, 0x03, 0x01, 0x00, 0x00, 0x04, 0x3D⟩ := by decide

theorem test_chk_stamp :
    (answer? (exec .chkStamp (holding ⟨0x01, 0x03, 0x03, 0x01, 0x00, 0x00, 0x04, 0x3D⟩))).map
      (fun s => (s.f, s.acc)) = some (outbound, 0x08) := by decide

theorem test_tx_fwd : (answer? (exec .txFwd (holding outbound))).map (·.txlog) =
    some [[0x01, 0x03, 0x03, 0x01, 0x00, 0x00, 0x04, 0x08]] := by decide

theorem test_diag_fwd : (answer? (exec .diagFwd (holding outbound))).map (·.diaglog) = some [.forwarded outbound] := by
  decide

/-- FUNC, ID and DATA unchanged. -/
theorem test_relay_forwards :
    (answer? (exec .relay (waiting [0xA5, 0x09, 0x03, 0x7E, 0x12, 0x34, 0x81, 0xE0]))).map
      (fun s => (s.txlog, s.rxq)) = some ([[0xA5, 0x03, 0x03, 0x7E, 0x12, 0x34, 0x85, 0xE1]], []) := by decide

/-- Wrong CHK and foreign DST: the checksum is reported. -/
theorem test_relay_checksum_first :
    (answer? (exec .relay (waiting [0x01, 0x02, 0x05, 0x01, 0x00, 0x00, 0x00, 0x00]))).map
      (fun s => (s.txlog, s.diaglog, s.rxq)) = some ([], [.checksumMismatch], []) := by decide

theorem test_relay_idle_seven_bytes :
    (answer? (exec .relayIdle (waiting inbound.header))).map (·.rxq) = some inbound.header := by decide

theorem test_relay_idle_eight_bytes : exec .relayIdle (waiting inbound.toBytes) = .refused .outcomeNotSelected := by rfl

theorem test_drop_chk_keeps_frame_in_buffer :
    (answer? (exec (.relayDropChk tampered) (waiting tampered.toBytes))).map (fun s => (s.f, s.diaglog)) =
      some (tampered, [.checksumMismatch]) := by decide

/-- The all-zero frame is valid and its DST is nobody's. -/
theorem test_drop_dst_all_zero :
    (answer? (exec (.relayDropDst Frame.cleared) (waiting (List.replicate 8 0x00)))).map
      (fun s => (s.txlog, s.diaglog)) = some ([], [.notAddressedHere]) := by decide

/-- The undetected pattern of 95_test_vectors 2.3 is forwarded. -/
theorem test_fwd_undetected_pattern :
    (answer? (exec (.relayFwd ⟨0x01, 0x02, 0x03, 0x01, 0x00, 0x01, 0x07, 0x3D⟩)
      (waiting [0x01, 0x02, 0x03, 0x01, 0x00, 0x01, 0x07, 0x3D]))).map (·.txlog) =
      some [[0x01, 0x03, 0x03, 0x01, 0x00, 0x01, 0x07, 0x14]] := by decide

/-! ### Heartbeat originator (95_test_vectors 1.3, 2.6) -/

/-- One short across the wrap, then due; `HB.CHECK` writes nothing. -/
theorem test_check_across_the_wrap :
    hbDue 903 (timed 4294963200 903) = false ∧ hbDue 904 (timed 4294963200 904) = true ∧
      answer? (exec .hbCheck (timed 4294963200 904)) = some (timed 4294963200 904) := by decide

/-- A sample that went backwards reads as a huge elapsed time. -/
theorem test_elapsed_backwards : elapsed 32 50 100 = 4294967246 ∧ elapsed 16 4464 60000 = 10000 := by decide

/-- Low byte of the counter only. -/
theorem test_build_low_byte :
    (answer? (exec .hbBuild { State.resetWith { localId := 3, hasHb := true, seqW := 16 } with seq := 4660 })).map
      (·.f.toBytes) = some [0x34, 0x03, 0x07, 0x01, 0x00, 0x00, 0x00, 0x43] := by decide

/-- PATH is zero, not the node's mask; CHK happens to be 00. -/
theorem test_build_seq_255 :
    (answer? (exec .hbBuild { holding ⟨0x11, 0x22, 0x33, 0x44, 0x55, 0x66, 0x77, 0x88⟩ with seq := 255 })).map
      (·.f.toBytes) = some [0xFF, 0x03, 0x07, 0x01, 0x00, 0x00, 0x00, 0x00] := by decide

theorem test_hb_tx : (answer? (exec .hbTx (holding firstBeat))).map (·.txlog) =
    some [[0x01, 0x03, 0x07, 0x01, 0x00, 0x00, 0x00], [0x9B]] := by decide

/-- `SEQ_W` = 8: 255 becomes 0. -/
theorem test_advance_wraps :
    (answer? (exec (.hbAdvance 5000) { node 3 true with seq := 255 })).map (fun s => (s.seq, s.last)) =
      some (0, 5000) := by decide

/-- `SEQ_W` = 16: 255 becomes 256. -/
theorem test_advance_wide :
    (answer? (exec (.hbAdvance 7) { State.resetWith { localId := 3, hasHb := true, seqW := 16 } with seq := 255 })).map
      (·.seq) = some 256 := by decide

theorem test_hb_diag : (answer? (exec .hbDiag (holding firstBeat))).map (·.diaglog) = some [.heartbeatSent] := by decide

/-- Scenario 1.3, equality fires. -/
theorem test_heartbeat_due :
    (answer? (exec .heartbeat (timed 0 5000))).map (fun s => (s.txlog, s.seq, s.last)) =
      some ([[0x01, 0x03, 0x07, 0x01, 0x00, 0x00, 0x00], [0x9B]], 2, 5000) := by decide

theorem test_heartbeat_one_short : answer? (exec .heartbeat (timed 0 4999)) = some (timed 0 4999) := by decide

theorem test_hb_idle : answer? (exec .hbIdle (timed 5000 9999)) = some (timed 5000 9999) := by decide

theorem test_hb_idle_when_due : exec .hbIdle (timed 5000 10000) = .refused .outcomeNotSelected := by rfl

theorem test_hb_emit :
    (answer? (exec .hbEmit (timed 100 50))).map (fun s => (s.diaglog, s.last)) = some ([.heartbeatSent], 50) := by decide

theorem test_heartbeat_absent : exec .heartbeat (node 3 false) = .refused .heartbeatAbsent := by rfl

/-! ### The polling loop and the step (95_test_vectors 2.7) -/

/-- Node 7 relays a heartbeat and then sends its own. -/
theorem test_iter_relay_before_heartbeat :
    (answer? (exec .loopIter { node 7 true with rxq := firstBeat.toBytes, now := 5000 })).map
      (fun s => (s.txlog, s.seq)) =
      some ([[0x01, 0x07, 0x07, 0x01, 0x00, 0x00, 0x40, 0xF8], [0x01, 0x07, 0x07, 0x01, 0x00, 0x00, 0x00], [0x3F]], 2) := by
  decide

/-- An error does not stop the heartbeat. -/
theorem test_iter_error_then_heartbeat :
    (answer? (exec .loopIter { waiting tampered.toBytes with now := 5000 })).map (·.diaglog) =
      some [.checksumMismatch, .heartbeatSent] := by decide

theorem test_step_iterates :
    (answer? (step { waiting inbound.toBytes with script := [.iter 100] })).map (fun s => (s.txlog, s.seq, s.now)) =
      some ([outbound.toBytes], 1, 100) := by decide

/-- The reset event empties both logs and keeps what the environment has in store (R160, log 16). -/
theorem test_step_reset :
    (answer? (step { waiting inbound.toBytes with txlog := [[0x01]], seq := 9, script := [.reset, .iter 0] })).map
      (fun s => (s.txlog, s.rxq, s.seq, s.script)) = some ([], [], 1, [.iter 0]) := by decide

theorem test_step_receives :
    (answer? (step { waiting [0x09] with script := [.rx [0xCD, 0x01]] })).map (·.rxq) = some [0x09, 0xCD, 0x01] := by
  decide

theorem test_step_refuses_ill_formed : step (node 8 true) = .refused .illFormedConfig := by rfl

/-- The word of 1.1 placed after reset is relayed by the very next step. -/
theorem test_fetch_word_runs_next :
    (answer? (step (State.reset.withFetchWord 64 0x010203010000003D))).map (fun s => (s.txlog, s.diaglog)) =
      some ([outbound.toBytes], [.forwarded outbound]) := by decide

/-! ### Witnesses: a state and operands that meet the hypotheses of each obligation, one per clause -/

theorem witness_Crc8RoundShiftsAndReduces :
    (node 3 true).cfg.wf = true ∧ (0x80#8).getLsbD 7 = true ∧ (0x7F#8).getLsbD 7 = false := by decide

theorem witness_Crc8ByteXorsThenRunsEightRounds :
    ∃ s : State, s.cfg.wf = true ∧ s.acc = 0x3D#8 := ⟨{ node 3 true with acc := 0x3D }, by decide⟩

theorem witness_Crc8BufAbsorbsBytesInOrderFromZero : ∃ s : State, s.cfg.wf = true ∧ s.acc ≠ 0x00#8 :=
  ⟨{ node 1 false with acc := 0xFF }, by decide⟩

theorem witness_Crc8FrameReadsOffsetsZeroToSix : ∃ (s : State) (x : Byte), s.cfg.wf = true ∧ x ≠ s.f.chk :=
  ⟨holding inbound, 0xFF, by decide⟩

theorem witness_CrcIsLinear : ∃ l m : List Byte, l.length = m.length ∧ l ≠ m :=
  ⟨inbound.header, outbound.header, by decide⟩

/-- First byte and bit, last byte and bit. -/
theorem witness_CrcDetectsEverySingleBit :
    ∃ l : List Byte, l.length = 7 ∧ ((0 < 7 ∧ 0 < 8) ∧ (6 < 7 ∧ 7 < 8)) := ⟨inbound.header, by decide⟩

/-- Eight bytes, and seven. -/
theorem witness_RxPollEndsRelayOnFewerThanEightBytes :
    (∃ s : State, s.cfg.wf = true ∧ 8 ≤ s.rxq.length ∧ ¬ 9 ≤ s.rxq.length) ∧
      ∃ s : State, s.cfg.wf = true ∧ s.rxq.length < 8 ∧ ¬ s.rxq.length < 7 :=
  ⟨⟨waiting inbound.toBytes, by decide⟩, ⟨waiting inbound.header, by decide⟩⟩

theorem witness_RxAssembleFillsBufferInWireOrder :
    ∃ s : State, s.cfg.wf = true ∧
      s.rxq = [0x01#8, 0x02#8, 0x03#8, 0x01#8, 0x00#8, 0x00#8, 0x00#8, 0x3D#8] ++ [0x77#8] :=
  ⟨waiting [0x01, 0x02, 0x03, 0x01, 0x00, 0x00, 0x00, 0x3D, 0x77], by decide⟩

theorem witness_StepsOutsideTheSequenceStop_bytes :
    (∃ s : State, s.cfg.wf = true ∧ s.rxq.length < 8 ∧ ¬ s.rxq.length < 7) ∧
      ∃ s : State, s.cfg.wf = true ∧ 8 ≤ s.rxq.length ∧ ¬ 9 ≤ s.rxq.length :=
  ⟨⟨waiting inbound.header, by decide⟩, ⟨waiting inbound.toBytes, by decide⟩⟩

theorem witness_StepsOutsideTheSequenceStop_frames :
    (takeFrame (waiting inbound.toBytes).rxq = some (inbound, []) ∧ inbound.valid = true ∧
        inbound.dst = (waiting inbound.toBytes).cfg.localId) ∧
      (takeFrame (waiting tampered.toBytes).rxq = some (tampered, []) ∧ tampered.valid = false) ∧
      takeFrame (waiting foreign.toBytes).rxq = some (foreign, []) ∧
        foreign.dst ≠ (waiting foreign.toBytes).cfg.localId := by decide

theorem witness_StepsOutsideTheSequenceStop_heartbeat :
    (∃ s : State, s.cfg.wf = true ∧ s.cfg.hasHb = true ∧ s.cfg.hbInterval ≤ elapsed s.cfg.timeW s.now s.last) ∧
      ∃ s : State, s.cfg.wf = true ∧ s.cfg.hasHb = true ∧ elapsed s.cfg.timeW s.now s.last < s.cfg.hbInterval :=
  ⟨⟨timed 0 5000, by decide⟩, ⟨timed 0 4999, by decide⟩⟩

theorem witness_ChkVerifyRaisesOnWrongChecksum :
    (∃ s : State, s.cfg.wf = true ∧ s.f.chk = crcBuf s.f.header) ∧
      ∃ s : State, s.cfg.wf = true ∧ s.f.chk ≠ crcBuf s.f.header :=
  ⟨⟨holding inbound, by decide⟩, ⟨holding tampered, by decide⟩⟩

theorem witness_DstMatchRaisesOnForeignDestination :
    (∃ s : State, s.cfg.wf = true ∧ s.f.dst = s.cfg.localId) ∧
      ∃ s : State, s.cfg.wf = true ∧ s.f.dst ≠ s.cfg.localId :=
  ⟨⟨holding inbound, by decide⟩, ⟨holding foreign, by decide⟩⟩

/-- The lowest and the highest legal identifier, a valid frame that does not carry the bit. -/
theorem witness_PathStampSetsOwnBitAndKeepsOthers :
    (∃ s : State, s.cfg.wf = true ∧ s.cfg.localId = 1#8 ∧ s.f.valid = true ∧
        s.f.path.getLsbD (s.cfg.localId.toNat - 1) = false) ∧
      ∃ s : State, s.cfg.wf = true ∧ s.cfg.localId = 7#8 ∧ s.f.valid = true ∧
        s.f.path.getLsbD (s.cfg.localId.toNat - 1) = false :=
  ⟨⟨{ node 1 true with f := inbound }, by decide⟩, ⟨{ node 7 true with f := firstBeat }, by decide⟩⟩

theorem witness_SrcStampOverwritesSrcInEitherOrder : ∃ s : State, s.cfg.wf = true ∧ s.f.src ≠ s.cfg.localId :=
  ⟨holding inbound, by decide⟩

theorem witness_ChkStampMakesFrameValid : ∃ s : State, s.cfg.wf = true ∧ s.f.valid = false :=
  ⟨holding tampered, by decide⟩

theorem witness_TxFwdWritesOneUnitOfEightBytes : ∃ s : State, s.cfg.wf = true ∧ s.f = outbound :=
  ⟨holding outbound, by decide⟩

theorem witness_DiagFwdRecordsTheBuffer : ∃ s : State, s.cfg.wf = true ∧ s.f = outbound :=
  ⟨holding outbound, by decide⟩

/-- Seven bytes; a wrong checksum; a foreign destination; a frame for this node. -/
theorem witness_RelayIsOneFunctionOfTheGroup :
    ((node 3 false).cfg.wf = true ∧ (waiting inbound.header).rxq.length < 8) ∧
      (∃ s : State, s.cfg.wf = true ∧ s.rxq = tampered.toBytes ++ [] ∧ tampered.chk ≠ crcBuf tampered.header) ∧
      (∃ s : State, s.cfg.wf = true ∧ s.rxq = foreign.toBytes ++ [] ∧ foreign.chk = crcBuf foreign.header ∧
        foreign.dst ≠ s.cfg.localId) ∧
      ∃ s : State, s.cfg.wf = true ∧ s.rxq = inbound.toBytes ++ [0x77#8] ∧ inbound.chk = crcBuf inbound.header ∧
        inbound.dst = s.cfg.localId :=
  ⟨by decide, ⟨waiting tampered.toBytes, by decide⟩, ⟨waiting foreign.toBytes, by decide⟩,
    ⟨waiting (inbound.toBytes ++ [0x77]), by decide⟩⟩

/-- One stream for each of the four outcomes. -/
theorem witness_RelayRunsTheDecodedOutcome :
    decode Config.nominal (waiting inbound.toBytes).rxq = .instr (.relayFwd inbound) [] ∧
      decode Config.nominal (waiting tampered.toBytes).rxq = .instr (.relayDropChk tampered) [] ∧
      decode Config.nominal (waiting foreign.toBytes).rxq = .instr (.relayDropDst foreign) [] ∧
      decode Config.nominal (waiting [0xAA]).rxq = .instr .relayIdle [0xAA] := by decide

theorem witness_RelayOutcomesHaveTheirEffects :
    (∃ s : State, s.cfg.wf = true ∧ s.rxq.length < 8) ∧
      (∃ s : State, s.cfg.wf = true ∧ s.rxq = tampered.toBytes ++ [] ∧ tampered.valid = false) ∧
      (∃ s : State, s.cfg.wf = true ∧ s.rxq = foreign.toBytes ++ [] ∧ foreign.valid = true ∧
        foreign.dst ≠ s.cfg.localId) ∧
      ∃ s : State, s.cfg.wf = true ∧ s.rxq = inbound.toBytes ++ [] ∧ inbound.valid = true ∧
        inbound.dst = s.cfg.localId :=
  ⟨⟨waiting inbound.header, by decide⟩, ⟨waiting tampered.toBytes, by decide⟩, ⟨waiting foreign.toBytes, by decide⟩,
    ⟨waiting inbound.toBytes, by decide⟩⟩

/-- The ill-formed, the short, the dropped, the forwarded; DST 00, 08 and FF. -/
theorem witness_DecoderClassifiesEveryStream :
    ({ localId := 0, hasHb := true } : Config).wf = false ∧ Config.nominal.wf = true ∧ inbound.header.length < 8 ∧
      tampered.chk ≠ crcBuf tampered.header ∧
      (foreign.chk = crcBuf foreign.header ∧ foreign.dst ≠ Config.nominal.localId) ∧
      (inbound.chk = crcBuf inbound.header ∧ inbound.dst = Config.nominal.localId) ∧
      (∃ f : Frame, f.chk = crcBuf f.header ∧ f.dst = 0x00#8) ∧
      (∃ f : Frame, f.chk = crcBuf f.header ∧ 8 ≤ f.dst.toNat ∧ ¬ 9 ≤ f.dst.toNat) ∧
      ∃ f : Frame, f.chk = crcBuf f.header ∧ 8 ≤ f.dst.toNat ∧ f.dst = 0xFF#8 :=
  ⟨by decide, by decide, by decide, by decide, by decide, by decide, ⟨Frame.cleared, by decide⟩,
    ⟨Frame.sealed { foreign with dst := 8 }, by decide⟩, ⟨Frame.sealed { foreign with dst := 0xFF }, by decide⟩⟩

theorem witness_OutcomesRoundTripThroughTheirBytes :
    (Instr.wf Config.nominal (.relayFwd inbound) = true ∧ encode (.relayFwd inbound) = some inbound.toBytes) ∧
      (Instr.wf Config.nominal (.relayDropChk tampered) = true ∧
        encode (.relayDropChk tampered) = some tampered.toBytes) ∧
      (Instr.wf Config.nominal (.relayDropDst foreign) = true ∧
        encode (.relayDropDst foreign) = some foreign.toBytes) ∧
      decode Config.nominal (inbound.toBytes ++ [0x77]) = .instr (.relayFwd inbound) [0x77] ∧
      Instr.relayFwd inbound ≠ .relayIdle := by decide

theorem witness_SealedFrameIsForwardedMarkedAndValid :
    ∃ s : State, s.cfg.wf = true ∧ tampered.dst = s.cfg.localId ∧ s.rxq = tampered.sealed.toBytes ++ [0xAA#8] :=
  ⟨waiting (inbound.toBytes ++ [0xAA]), by decide⟩

theorem witness_ForwardedFrameIsForwardedUnchanged :
    ∃ s : State, s.cfg.wf = true ∧ inbound.valid = true ∧ inbound.dst = s.cfg.localId ∧
      s.rxq = (stamped s.cfg inbound).toBytes ++ [] := ⟨waiting outbound.toBytes, by decide⟩

/-- The checksum byte's bit 0; the first byte's bit 7. -/
theorem witness_OneBitTamperIsDropped :
    (∃ s : State, s.cfg.wf = true ∧ inbound.valid = true ∧
        tampered.toBytes = inbound.toBytes.modify 7 (fun b => b ^^^ (1#8 <<< 0)) ∧ s.rxq = tampered.toBytes ++ []) ∧
      ∃ (s : State) (g : Frame), s.cfg.wf = true ∧ inbound.valid = true ∧
        g.toBytes = inbound.toBytes.modify 0 (fun b => b ^^^ (1#8 <<< 7)) ∧ s.rxq = g.toBytes ++ [] :=
  ⟨⟨waiting tampered.toBytes, by decide⟩,
    ⟨waiting ({ inbound with id := 0x81 } : Frame).toBytes, { inbound with id := 0x81 }, by decide⟩⟩

theorem witness_RelayAndHeartbeatAreIndependent :
    (∃ s t : State, exec .relay s = .next t ∧ t.txlog = [outbound.toBytes]) ∧
      ∃ s t : State, exec .heartbeat s = .next t ∧ t.seq = 2 :=
  ⟨⟨waiting inbound.toBytes, _, rfl, by decide⟩, ⟨timed 0 5000, _, rfl, by decide⟩⟩

/-- Equality fires, one short does not; the two cases of the modular difference. -/
theorem witness_HbCheckComparesElapsedTime :
    (∃ s : State, s.cfg.wf = true ∧ s.cfg.hasHb = true ∧
        s.cfg.hbInterval ≤ elapsed s.cfg.timeW 5000 s.last ∧ ¬ s.cfg.hbInterval ≤ elapsed s.cfg.timeW 4999 s.last) ∧
      ((5000 < 2 ^ 32 ∧ 5000 < 2 ^ 32) ∧ 5000 ≤ 5000) ∧ (50 < 2 ^ 32 ∧ 100 < 2 ^ 32) ∧ ¬ 100 ≤ 50 :=
  ⟨⟨node 3 true, by decide⟩, by decide⟩

theorem witness_HbBuildSynthesizesTheFrame : ∃ s : State, s.cfg.wf = true ∧ s.cfg.hasHb = true ∧ s.seq = 255 :=
  ⟨{ node 3 true with seq := 255 }, by decide⟩

theorem witness_HbTxWritesSevenBytesThenOne : ∃ s : State, s.cfg.wf = true ∧ s.cfg.hasHb = true ∧ s.f = firstBeat :=
  ⟨holding firstBeat, by decide⟩

/-- `SEQ` at 255, the sample at its highest value. -/
theorem witness_HbAdvanceStepsSeqAndRestartsInterval :
    ∃ s : State, s.cfg.wf = true ∧ s.cfg.hasHb = true ∧ 4294967295 < 2 ^ s.cfg.timeW ∧
      s.seq = 2 ^ s.cfg.seqW - 1 := ⟨{ node 3 true with seq := 255 }, by decide⟩

theorem witness_HbDiagRecordsTheEmission : ∃ s : State, s.cfg.wf = true ∧ s.cfg.hasHb = true :=
  ⟨node 3 true, by decide⟩

theorem witness_HeartbeatIsOneFunctionOfTheSample :
    (∃ s : State, s.cfg.wf = true ∧ s.cfg.hasHb = true ∧ s.now < 2 ^ s.cfg.timeW ∧
        s.cfg.hbInterval ≤ elapsed s.cfg.timeW s.now s.last) ∧
      ∃ s : State, s.cfg.wf = true ∧ s.cfg.hasHb = true ∧ s.now < 2 ^ s.cfg.timeW ∧
        ¬ s.cfg.hbInterval ≤ elapsed s.cfg.timeW s.now s.last :=
  ⟨⟨timed 0 5000, by decide⟩, ⟨timed 0 4999, by decide⟩⟩

theorem witness_HeartbeatOutcomesHaveTheirEffects :
    (∃ s : State, s.cfg.wf = true ∧ s.cfg.hasHb = true ∧ elapsed s.cfg.timeW s.now s.last < s.cfg.hbInterval) ∧
      ∃ s : State, s.cfg.wf = true ∧ s.cfg.hasHb = true ∧ s.cfg.hbInterval ≤ elapsed s.cfg.timeW s.now s.last :=
  ⟨⟨timed 5000 9999, by decide⟩, ⟨timed 5000 10000, by decide⟩⟩

theorem witness_VariantOneHasNoHeartbeat :
    ∃ s : State, s.cfg.wf = true ∧ s.cfg.hasHb = false ∧
      Instr.hbAdvance 5 ∈ [Instr.hbCheck, .hbBuild, .hbTx, .hbAdvance 5, .hbDiag, .heartbeat, .hbIdle, .hbEmit] :=
  ⟨node 3 false, by decide⟩

theorem witness_MissedIntervalsAreNotMadeUp :
    ∃ s u : State, s.cfg.hasHb = true ∧ s.now < 2 ^ s.cfg.timeW ∧ 31999 < 2 ^ s.cfg.timeW ∧
      s.cfg.hbInterval ≤ elapsed s.cfg.timeW s.now s.last ∧ exec .heartbeat s = .next u ∧
      ¬ s.cfg.hbInterval ≤ elapsed s.cfg.timeW 31999 s.now :=
  ⟨timed 10000 27000, _, by decide, by decide, by decide, by decide, rfl, by decide⟩

/-- 95_test_vectors P4. -/
theorem witness_CollectorRelaysAHeartbeat :
    ∃ a b u : State, a.cfg.wf = true ∧ a.cfg.hasHb = true ∧ b.cfg.wf = true ∧ b.cfg.localId = a.cfg.collectorId ∧
      exec .hbEmit a = .next u ∧ b.rxq = (u.txlog.drop a.txlog.length).flatten ++ [] :=
  ⟨timed 0 5000, { node 7 true with rxq := firstBeat.toBytes }, _, by decide, by decide, by decide, by decide, rfl,
    by decide⟩

theorem witness_LoopIterIsRelayThenHeartbeat :
    (∃ s : State, s.cfg.wf = true ∧ s.cfg.hasHb = true) ∧ ∃ s : State, s.cfg.wf = true ∧ s.cfg.hasHb = false :=
  ⟨⟨node 3 true, by decide⟩, ⟨node 3 false, by decide⟩⟩

theorem witness_IterationMovesAtMostOneFrameAndOneHeartbeat : ∃ s : State, s.cfg.wf = true ∧ s.rxq.length = 9 :=
  ⟨waiting (inbound.toBytes ++ [0x77]), by decide⟩

theorem witness_BytesArrivingDuringAnIterationWait :
    ∃ s t : State, 8 ≤ s.rxq.length ∧ exec .loopIter s = .next t := ⟨waiting inbound.toBytes, _, by decide, rfl⟩

theorem witness_OperationsOnlyPopInputAndAppendOutput :
    ∃ (i : Instr) (s t : State), exec i s = .next t ∧ t.txlog ≠ s.txlog :=
  ⟨.loopIter, { waiting inbound.toBytes with now := 5000 }, _, rfl, by decide⟩

theorem witness_OnlyTheAdvanceWritesSeqAndLast :
    ∃ (i : Instr) (s t : State), exec i s = .next t ∧ (∀ n, i ≠ .hbAdvance n) ∧ i ≠ .heartbeat ∧ i ≠ .hbEmit ∧
      i ≠ .loopIter :=
  ⟨.relay, waiting inbound.toBytes, _, rfl, fun _ h => Instr.noConfusion h, by decide, by decide, by decide⟩

theorem witness_OnlyTheTransmitStepsWriteTheWire :
    ∃ (i : Instr) (s t : State), exec i s = .next t ∧ i ≠ .txFwd ∧ i ≠ .hbTx ∧ i ≠ .relay ∧ (∀ f, i ≠ .relayFwd f) ∧
      i ≠ .heartbeat ∧ i ≠ .hbEmit ∧ i ≠ .loopIter :=
  ⟨.relayDropChk tampered, waiting tampered.toBytes, _, rfl, by decide, by decide, by decide,
    fun _ h => Instr.noConfusion h, by decide, by decide, by decide⟩

/-- One state for each event, and for no event, in both variants. -/
theorem witness_StepIsAnEnvironmentEventOrOneIteration :
    (∃ s : State, s.cfg.wf = true ∧ s.script = .reset :: []) ∧
      (∃ s : State, s.cfg.wf = true ∧ s.script = .rx [0xAA] :: []) ∧
      (∃ s : State, s.cfg.wf = true ∧ s.script = .iter 5000 :: [] ∧ s.cfg.hasHb = true) ∧
      (∃ s : State, s.cfg.wf = true ∧ s.script = .iter 0 :: [] ∧ s.cfg.hasHb = false) ∧
      (∃ s : State, s.cfg.wf = true ∧ s.script = [] ∧ s.cfg.hasHb = true) ∧
      ∃ s : State, s.cfg.wf = true ∧ s.script = [] ∧ s.cfg.hasHb = false :=
  ⟨⟨{ node 3 true with script := [.reset] }, by decide⟩, ⟨{ node 3 true with script := [.rx [0xAA]] }, by decide⟩,
    ⟨{ node 3 true with script := [.iter 5000] }, by decide⟩, ⟨{ node 3 false with script := [.iter 0] }, by decide⟩,
    ⟨node 3 true, by decide⟩, ⟨node 3 false, by decide⟩⟩

theorem witness_StepRunsTheDecodedOutcome :
    ∃ s : State, s.script = .iter 5000 :: [] ∧ decode s.cfg s.rxq = .instr (.relayFwd inbound) [] :=
  ⟨{ waiting inbound.toBytes with script := [.iter 5000] }, by decide⟩

theorem witness_WellFormedMachineNeverStops : ∃ s : State, s.cfg.wf = true := ⟨State.reset, by decide⟩

/-- The lowest and the first too high identifier. -/
theorem witness_IllFormedConfigurationIsRefused :
    (∃ s : State, s.cfg.wf = false) ∧ (∃ c : Config, c.localId.toNat = 0) ∧
      ∃ c : Config, 8 ≤ c.localId.toNat ∧ ¬ 9 ≤ c.localId.toNat :=
  ⟨⟨node 0 true, by decide⟩, ⟨{ localId := 0, hasHb := true }, by decide⟩, ⟨{ localId := 8, hasHb := true }, by decide⟩⟩

theorem witness_ResetMeetsTheInvariant : ∃ c : Config, c.wf = true ∧ c.hasHb = false :=
  ⟨{ localId := 7, hasHb := false }, by decide⟩

/-- A unit that has sent one heartbeat, a frame for it waiting and the next heartbeat due. -/
theorem witness_EveryStepKeepsTheInvariant : ∃ s t : State, UnitInv s ∧ step s = .next t ∧ t.seq = 3 :=
  ⟨{ waiting inbound.toBytes with
      seq := 2, last := 5000, now := 5000, txlog := [firstBeat.header, [0x9B]], diaglog := [.heartbeatSent],
      script := [.iter 10000] }, _,
    { cfg_wf := by decide, seq_eq := by decide, last_lt := by decide, now_lt := by decide, wire := by decide,
      forwards := by simp, variant1 := by decide }, rfl, by decide⟩

/-- `SEQ_W` 8 just after its wrap, beside `SEQ_W` 16. -/
theorem witness_SequenceWidthIsInvisible :
    ∃ s t s' : State, s.cfg.wf = true ∧ t.cfg.wf = true ∧ SameButSeqWidth s t ∧ step s = .next s' ∧
      s.seq = 0 ∧ t.seq = 256 :=
  ⟨{ timed 0 0 with seq := 0, script := [.iter 5000] },
    { State.resetWith { localId := 3, hasHb := true, seqW := 16 } with seq := 256, script := [.iter 5000] }, _,
    by decide, by decide, { cfg_eq := by decide, seq_low := by decide, others := by decide }, rfl, by decide, by decide⟩

theorem witness_FramesAreCountedOffByEights :
    ∃ s : State, s.cfg.wf = true ∧ 8 * 2 ≤ s.rxq.length :=
  ⟨waiting (inbound.toBytes ++ foreign.toBytes ++ [0xAA]), by decide⟩

theorem witness_WaitingFramesAreAllHandled : ∃ s : State, s.cfg.wf = true ∧ s.rxq.length / 8 ≤ 1 ∧ s.rxq.length = 15 :=
  ⟨waiting (inbound.toBytes ++ inbound.header), by decide⟩

/-- A frame dropped in one iteration and a heartbeat sent in the same one, from a buffer that holds something. -/
theorem witness_StaleBufferAndAccumulatorAreNeverRead :
    (∃ s t : State, exec .relay s = .next t ∧ s.f ≠ t.f) ∧ (∃ s t : State, exec .heartbeat s = .next t ∧ s.f ≠ t.f) ∧
      ∃ s t : State, step s = .next t ∧ s.f ≠ t.f :=
  ⟨⟨waiting tampered.toBytes, _, rfl, by decide⟩, ⟨{ timed 0 5000 with f := outbound }, _, rfl, by decide⟩,
    ⟨{ waiting tampered.toBytes with script := [.iter 5000] }, _, rfl, by decide⟩⟩

end Sys2Proof.Tests
end

section
/-! SUPPORT. `RELAY`, `HEARTBEAT` and `LOOP.ITER` as whole operations: what each ends with, case by case. -/

namespace Sys2Proof.Machine

/-! ### `RELAY` in its four cases (R72, R156) -/

/-- The two steps before the decision (R90, R91) put the first eight bytes of the stream into `F`. -/
theorem relay_eq_of_frame {s : State} {f : Frame} {rest : List Byte} (h : s.rxq = f.toBytes ++ rest) :
    relay s = (chkVerify (setRxq (s.rxq.drop 8) (setFrame f s))).andThen fun s => (dstMatch s).andThen fun s =>
      (pathStamp s).andThen fun s => (srcStamp s).andThen fun s => (chkStamp s).andThen fun s => (txFwd s).andThen fun s =>
        (diagFwd s).andThen fun s => .ended .fwd s := by
  have hready : 8 ≤ s.rxq.length := by simp [h]
  have hdrop : s.rxq.drop 8 = rest := by rw [h]; rfl
  rw [relay, rxPoll_of_ready hready, andThen_go, rxAssemble_of_frame h, andThen_go, hdrop]

theorem relay_of_short {s : State} (h : s.rxq.length < 8) : relay s = .ended .idle s := by
  rw [relay, rxPoll_of_short h, andThen_ended]

theorem relay_of_invalid {s : State} {f : Frame} {rest : List Byte} (h : s.rxq = f.toBytes ++ rest)
    (hv : f.valid = false) : relay s = .ended .dropChk (dropped .checksumMismatch f s) := by
  rw [relay_eq_of_frame h, chkVerify_of_invalid (s := setRxq _ (setFrame f s)) hv]; rfl

theorem relay_of_foreign {s : State} {f : Frame} {rest : List Byte} (h : s.rxq = f.toBytes ++ rest)
    (hv : f.valid = true) (hd : f.dst ≠ s.cfg.localId) :
    relay s = .ended .dropDst (dropped .notAddressedHere f s) := by
  rw [relay_eq_of_frame h, chkVerify_of_valid (s := setRxq _ (setFrame f s)) hv, andThen_go,
    dstMatch_of_foreign (s := setAcc _ (setRxq _ (setFrame f s))) hd]; rfl

theorem relay_of_local {s : State} {f : Frame} {rest : List Byte} (h : s.rxq = f.toBytes ++ rest)
    (hv : f.valid = true) (hd : f.dst = s.cfg.localId) : relay s = .ended .fwd (forwarded f s) := by
  rw [relay_eq_of_frame h, chkVerify_of_valid (s := setRxq _ (setFrame f s)) hv, andThen_go,
    dstMatch_of_local (s := setAcc _ (setRxq _ (setFrame f s))) hd]; rfl

/-- How `RELAY` can end, with the condition of each end: it always ends, and in exactly one of four ways. -/
theorem relay_cases (s : State) :
    (s.rxq.length < 8 ∧ relay s = .ended .idle s) ∨
    ∃ f, s.rxq = f.toBytes ++ s.rxq.drop 8 ∧
      ((f.valid = false ∧ relay s = .ended .dropChk (dropped .checksumMismatch f s)) ∨
       (f.valid = true ∧ f.dst ≠ s.cfg.localId ∧ relay s = .ended .dropDst (dropped .notAddressedHere f s)) ∨
       (f.valid = true ∧ f.dst = s.cfg.localId ∧ relay s = .ended .fwd (forwarded f s))) := by
  by_cases hlen : s.rxq.length < 8
  · exact .inl ⟨hlen, relay_of_short hlen⟩
  obtain ⟨f, hf⟩ := exists_frame_of_length (Nat.not_lt.mp hlen)
  refine .inr ⟨f, hf, ?_⟩
  cases hv : f.valid with
  | false => exact .inl ⟨rfl, relay_of_invalid hf hv⟩
  | true =>
    by_cases hd : f.dst = s.cfg.localId
    · exact .inr (.inr ⟨rfl, hd, relay_of_local hf hv hd⟩)
    · exact .inr (.inl ⟨rfl, hd, relay_of_foreign hf hv hd⟩)

/-- `RELAY` never stops with a fault. -/
theorem relay_ends (s : State) : ∃ o t, relay s = .ended o t := by
  obtain ⟨-, h⟩ | ⟨f, -, ⟨-, h⟩ | ⟨-, -, h⟩ | ⟨-, -, h⟩⟩ := relay_cases s <;> exact ⟨_, _, h⟩

/-! ### `HEARTBEAT` in its two cases (R116, R156) -/

theorem heartbeat_of_not_due {s : State} (h : hbDue s.now s = false) : heartbeat s = .ended .idle s := by
  simp [heartbeat, nowSample, hbCheck, h]

theorem heartbeat_of_due {s : State} (h : hbDue s.now s = true) : heartbeat s = .ended .emit (emitted s.now s) := by
  simp only [heartbeat, nowSample, hbCheck, h, if_true, andThen_go]; rfl

/-- How `HEARTBEAT` can end, with the condition of each end. -/
theorem heartbeat_cases (s : State) :
    (hbDue s.now s = false ∧ heartbeat s = .ended .idle s) ∨
    (hbDue s.now s = true ∧ heartbeat s = .ended .emit (emitted s.now s)) := by
  cases h : hbDue s.now s with
  | false => exact .inl ⟨rfl, heartbeat_of_not_due h⟩
  | true => exact .inr ⟨rfl, heartbeat_of_due h⟩

/-- `HEARTBEAT` always ends. -/
theorem heartbeat_ends (s : State) : ∃ o t, heartbeat s = .ended o t := by
  obtain ⟨-, h⟩ | ⟨-, h⟩ := heartbeat_cases s <;> exact ⟨_, _, h⟩

/-! ### `LOOP.ITER` (R125) -/

theorem exec_loopIter {s : State} (hc : s.cfg.wf = true) : exec .loopIter s = iteration s := onUnit_of_wf hc

theorem exec_relay {s : State} (hc : s.cfg.wf = true) : exec .relay s = (relay s).answer :=
  onUnit_of_wf (k := fun s => (relay s).answer) hc

theorem iteration_of_variant1 {s t : State} {o : RelayOutcome} (hr : relay s = .ended o t)
    (hv : t.cfg.hasHb = false) : iteration s = .next t := by
  simp [iteration, hr, hv]

theorem iteration_of_variant2 {s t u : State} {o : RelayOutcome} {o' : HbOutcome} (hr : relay s = .ended o t)
    (hv : t.cfg.hasHb = true) (hh : heartbeat t = .ended o' u) : iteration s = .next u := by
  simp [iteration, hr, hv, hh]

/-! ### The frame of `RELAY`: the configuration, the originator's registers and the count of heartbeats -/

theorem heartbeatCount_append (ds es : List DiagRecord) :
    heartbeatCount (ds ++ es) = heartbeatCount ds + heartbeatCount es := by
  induction ds with
  | nil => simp [heartbeatCount]
  | cons d ds ih => cases d <;> simp [heartbeatCount, ih]; omega

/-- `RELAY` adds at most one record, and that one is the relay's own. -/
theorem relay_diaglog {s t : State} {o : RelayOutcome} (h : relay s = .ended o t) :
    t.diaglog = s.diaglog ∨ ∃ r, r.ofRelay = true ∧ t.diaglog = s.diaglog ++ [r] := by
  obtain ⟨-, hr⟩ | ⟨f, -, ⟨-, hr⟩ | ⟨-, -, hr⟩ | ⟨-, -, hr⟩⟩ := relay_cases s <;> cases hr.symm.trans h
  · exact .inl rfl
  · exact .inr ⟨.checksumMismatch, rfl, rfl⟩
  · exact .inr ⟨.notAddressedHere, rfl, rfl⟩
  · exact .inr ⟨.forwarded (stamped s.cfg f), rfl, rfl⟩

theorem heartbeatCount_ofRelay {r : DiagRecord} (h : r.ofRelay = true) : heartbeatCount [r] = 0 := by
  cases r with
  | forwarded _ | checksumMismatch | notAddressedHere => rfl
  | heartbeatSent => cases h

theorem relay_keeps_heartbeatCount {s t : State} {o : RelayOutcome} (h : relay s = .ended o t) :
    heartbeatCount t.diaglog = heartbeatCount s.diaglog := by
  obtain hd | ⟨r, hr, hd⟩ := relay_diaglog h
  · rw [hd]
  · rw [hd, heartbeatCount_append, heartbeatCount_ofRelay hr, Nat.add_zero]

/-- What `RELAY` leaves unchanged (R24, R25, R52). -/
theorem relay_frame {s t : State} {o : RelayOutcome} (h : relay s = .ended o t) :
    t.cfg = s.cfg ∧ t.seq = s.seq ∧ t.last = s.last ∧ t.now = s.now ∧ t.script = s.script ∧ t.draws = s.draws := by
  obtain ⟨-, hr⟩ | ⟨f, -, ⟨-, hr⟩ | ⟨-, -, hr⟩ | ⟨-, -, hr⟩⟩ := relay_cases s <;> cases hr.symm.trans h <;>
    exact ⟨rfl, rfl, rfl, rfl, rfl, rfl⟩

end Sys2Proof.Machine
end

section
/-! SUPPORT. A unit beside the same unit with another `SEQ_W` (spec 42_heartbeat R120): every operation does the same to
both, but for the bits of `SEQ` above its low byte. -/

namespace Sys2Proof.Machine

/-- The unit `s` with `SEQ_W` set to `w` and `SEQ` to `n`. -/
def withSeqWidth (w n : Nat) (s : State) : State := { s with cfg := { s.cfg with seqW := w }, seq := n }

theorem sameButSeqWidth_withSeqWidth {s : State} {w n : Nat} (h : idByte n = idByte s.seq) :
    SameButSeqWidth s (withSeqWidth w n s) := { cfg_eq := rfl, seq_low := h, others := rfl }

/-- Being alike but for `SEQ_W` is being a `withSeqWidth` with the same low byte of `SEQ`. -/
theorem SameButSeqWidth.exists_withSeqWidth {s t : State} (h : SameButSeqWidth s t) :
    ∃ w n, idByte n = idByte s.seq ∧ t = withSeqWidth w n s := by
  obtain ⟨hcfg, hlow, hothers⟩ := h
  refine ⟨t.cfg.seqW, t.seq, hlow, ?_⟩
  rw [withSeqWidth, ← hcfg]; exact hothers

theorem SameButSeqWidth.same_logs {s t : State} (h : SameButSeqWidth s t) :
    t.txlog = s.txlog ∧ t.diaglog = s.diaglog := by
  rw [h.others]; exact ⟨rfl, rfl⟩

/-- The key fact of R120: a counter of eight bits or more steps its low byte by one, across its own wrap too. -/
theorem idByte_nextSeq {w : Nat} (hw : 8 ≤ w) (n : Nat) : idByte (nextSeq w n) = idByte (n + 1) := by
  apply BitVec.eq_of_toNat_eq
  simpa [idByte, nextSeq] using Nat.mod_mod_of_dvd (n + 1) (pow_dvd_pow 2 hw)

theorem idByte_succ_congr {m n : Nat} (h : idByte m = idByte n) : idByte (m + 1) = idByte (n + 1) := by
  simp only [idByte, BitVec.ofNat_add] at h ⊢; rw [h]

theorem seqW_ge_of_wf {c : Config} (h : c.wf = true) : 8 ≤ c.seqW := by
  simp only [Config.wf, Bool.and_eq_true, decide_eq_true_eq] at h
  omega

/-- `RELAY` does not look at `SEQ` or `SEQ_W`. -/
theorem relay_withSeqWidth {s t : State} {o : RelayOutcome} (w n : Nat) (h : relay s = .ended o t) :
    relay (withSeqWidth w n s) = .ended o (withSeqWidth w n t) := by
  obtain ⟨hlen, hr⟩ | ⟨f, hf, ⟨hv, hr⟩ | ⟨hv, hd, hr⟩ | ⟨hv, hd, hr⟩⟩ := relay_cases s <;> cases hr.symm.trans h
  · exact relay_of_short (s := withSeqWidth w n s) hlen
  · exact relay_of_invalid (s := withSeqWidth w n s) hf hv
  · exact relay_of_foreign (s := withSeqWidth w n s) hf hv hd
  · exact relay_of_local (s := withSeqWidth w n s) hf hv hd

/-- The frame of a heartbeat reads the low byte of `SEQ` only (R112). -/
theorem heartbeatFrame_congr (c : Config) (w : Nat) {m n : Nat} (h : idByte m = idByte n) :
    heartbeatFrame { c with seqW := w } m = heartbeatFrame c n := by
  simp only [heartbeatFrame, h]

theorem emitted_withSeqWidth {s : State} {n : Nat} (w t : Nat) (h : idByte n = idByte s.seq) :
    emitted t (withSeqWidth w n s) = withSeqWidth w (nextSeq w n) (emitted t s) := by
  have hg : heartbeatFrame (withSeqWidth w n s).cfg (withSeqWidth w n s).seq = heartbeatFrame s.cfg s.seq :=
    heartbeatFrame_congr s.cfg w h
  simp only [emitted, hg]; rfl

/-- `HEARTBEAT` sends the same frame from both units, and leaves their counters with the same low byte. -/
theorem heartbeat_withSeqWidth {s t : State} {o : HbOutcome} {w n : Nat} (hs : 8 ≤ s.cfg.seqW) (hw : 8 ≤ w)
    (hlow : idByte n = idByte s.seq) (h : heartbeat s = .ended o t) :
    ∃ n', idByte n' = idByte t.seq ∧ heartbeat (withSeqWidth w n s) = .ended o (withSeqWidth w n' t) := by
  obtain ⟨hdue, hh⟩ | ⟨hdue, hh⟩ := heartbeat_cases s <;> cases hh.symm.trans h
  · exact ⟨n, hlow, heartbeat_of_not_due (s := withSeqWidth w n s) hdue⟩
  · refine ⟨nextSeq w n, ?_, ?_⟩
    · calc idByte (nextSeq w n) = idByte (n + 1) := idByte_nextSeq hw n
        _ = idByte (s.seq + 1) := idByte_succ_congr hlow
        _ = idByte (nextSeq s.cfg.seqW s.seq) := (idByte_nextSeq hs s.seq).symm
    · rw [← emitted_withSeqWidth w s.now hlow]
      exact heartbeat_of_due (s := withSeqWidth w n s) hdue

/-- One iteration takes a pair of units that differ in `SEQ_W` to such a pair. -/
theorem iteration_withSeqWidth {s u : State} {w n : Nat} (hs : 8 ≤ s.cfg.seqW) (hw : 8 ≤ w)
    (hlow : idByte n = idByte s.seq) (h : iteration s = .next u) :
    ∃ n', idByte n' = idByte u.seq ∧ iteration (withSeqWidth w n s) = .next (withSeqWidth w n' u) := by
  obtain ⟨o, t, hr⟩ := relay_ends s
  have hr' := relay_withSeqWidth w n hr
  obtain ⟨hcfg, hseq, -⟩ := relay_frame hr
  rw [← hcfg] at hs
  rw [← hseq] at hlow
  cases hv : t.cfg.hasHb with
  | false =>
    cases (iteration_of_variant1 hr hv).symm.trans h
    exact ⟨n, hlow, iteration_of_variant1 hr' hv⟩
  | true =>
    obtain ⟨o', v, hh⟩ := heartbeat_ends t
    cases (iteration_of_variant2 hr hv hh).symm.trans h
    obtain ⟨n', hlow', hh'⟩ := heartbeat_withSeqWidth hs hw hlow hh
    exact ⟨n', hlow', iteration_of_variant2 hr' hv hh'⟩

/-! ### The step -/

theorem takeSample_withSeqWidth (w n t : Nat) (s : State) :
    takeSample t (withSeqWidth w n s) = withSeqWidth w n (takeSample t s) := by
  cases hv : s.cfg.hasHb <;> simp [takeSample, withSeqWidth, hv]

/-- Before an iteration the environment writes neither the configuration nor `SEQ`. -/
theorem nextTurn_unit_frame {s u : State} (h : nextTurn s = .unit u) : u.cfg = s.cfg ∧ u.seq = s.seq := by
  unfold nextTurn at h
  split at h <;> cases h <;> simp

/-- A unit's turn comes to both units at once, with the same bytes and the same sample. -/
theorem nextTurn_unit_withSeqWidth {s u : State} (w n : Nat) (h : nextTurn s = .unit u) :
    nextTurn (withSeqWidth w n s) = .unit (withSeqWidth w n u) := by
  unfold nextTurn at h ⊢
  split at h <;> rename_i hscript <;> cases h
  · rw [← takeSample_withSeqWidth]; simp [withSeqWidth, hscript]
  · rw [← takeSample_withSeqWidth]; simp [withSeqWidth, hscript, appendRx]

/-- An environment event does the same to both units; the reset event sets both counters to 1 (R160). -/
theorem nextTurn_environment_withSeqWidth {s u : State} {w n : Nat} (hlow : idByte n = idByte s.seq)
    (h : nextTurn s = .environment u) :
    ∃ n', idByte n' = idByte u.seq ∧ nextTurn (withSeqWidth w n s) = .environment (withSeqWidth w n' u) := by
  unfold nextTurn at h ⊢
  split at h <;> rename_i hscript <;> cases h
  · exact ⟨1, rfl, by simp [withSeqWidth, hscript, resetUnit, State.resetWith]⟩
  · exact ⟨n, hlow, by simp [withSeqWidth, hscript, appendRx]⟩

theorem step_of_environment {s u : State} (hc : s.cfg.wf = true) (h : nextTurn s = .environment u) :
    step s = .next u := by
  simp [step, hc, h]

theorem step_of_unit {s u : State} (hc : s.cfg.wf = true) (h : nextTurn s = .unit u) :
    step s = exec .loopIter u := by
  simp [step, hc, h]

/-- One step takes a pair of units that differ in `SEQ_W` to such a pair. -/
theorem step_withSeqWidth {s s' : State} {w n : Nat} (hs : s.cfg.wf = true) (ht : (withSeqWidth w n s).cfg.wf = true)
    (hlow : idByte n = idByte s.seq) (h : step s = .next s') :
    ∃ n', idByte n' = idByte s'.seq ∧ step (withSeqWidth w n s) = .next (withSeqWidth w n' s') := by
  obtain ⟨-, henv | ⟨u, hunit, hexec⟩⟩ := step_eq_next h
  · obtain ⟨n', hlow', henv'⟩ := nextTurn_environment_withSeqWidth hlow henv
    exact ⟨n', hlow', step_of_environment ht henv'⟩
  · obtain ⟨hcfg, hseq⟩ := nextTurn_unit_frame hunit
    have hu : u.cfg.wf = true := hcfg ▸ hs
    have hu' : (withSeqWidth w n u).cfg.wf = true := by simpa [withSeqWidth, hcfg] using ht
    rw [exec_loopIter hu] at hexec
    obtain ⟨n', hlow', hiter⟩ := iteration_withSeqWidth (seqW_ge_of_wf hu) (seqW_ge_of_wf hu') (hseq ▸ hlow) hexec
    refine ⟨n', hlow', ?_⟩
    rw [step_of_unit ht (nextTurn_unit_withSeqWidth w n hunit), exec_loopIter hu']
    exact hiter

/-- Settles O57: the pair is a unit and its `withSeqWidth`, and a step of the one is matched by a step of the other. -/
theorem sequenceWidthIsInvisible : Obligations.SequenceWidthIsInvisible := by
  unfold Obligations.SequenceWidthIsInvisible
  intro s t s' hs ht hsame hstep
  obtain ⟨w, n, hlow, rfl⟩ := hsame.exists_withSeqWidth
  obtain ⟨n', hlow', hstep'⟩ := step_withSeqWidth hs ht hlow hstep
  have hsame' := sameButSeqWidth_withSeqWidth (w := w) hlow'
  exact ⟨_, hstep', hsame', hsame'.same_logs⟩

end Sys2Proof.Machine
end

section
/-! SUPPORT. Variant 1 (spec 00_scope R3, 42_heartbeat R119). -/

namespace Sys2Proof.Machine

theorem onOriginator_of_variant1 {s : State} {k} (hc : s.cfg.wf = true) (hv : s.cfg.hasHb = false) :
    onOriginator s k = .refused .heartbeatAbsent := by
  simp [onOriginator, hc, hv]

theorem exec_hb_of_variant1 {s : State} (hc : s.cfg.wf = true) (hv : s.cfg.hasHb = false) {i : Instr} {t : Nat}
    (hi : i ∈ [Instr.hbCheck, .hbBuild, .hbTx, .hbAdvance t, .hbDiag, .heartbeat, .hbIdle, .hbEmit]) :
    exec i s = .refused .heartbeatAbsent := by
  simp only [List.mem_cons, List.not_mem_nil, or_false] at hi
  obtain rfl | rfl | rfl | rfl | rfl | rfl | rfl | rfl := hi <;>
    simp only [exec, execHbCheck, execHbBuild, execHbTx, execHbAdvance, execHbDiag, execHeartbeat, execHbIdle, execHbEmit,
      onOriginator_of_variant1 hc hv]

/-- Settles O41: the originator's check refuses, and with no originator the iteration ends where `RELAY` ends, which
writes neither `SEQ` nor `LAST` and makes no heartbeat record. -/
theorem variantOneHasNoHeartbeat : Obligations.VariantOneHasNoHeartbeat := by
  unfold Obligations.VariantOneHasNoHeartbeat
  intro s hc hv
  refine ⟨fun i t hi => exec_hb_of_variant1 hc hv hi, ?_⟩
  obtain ⟨o, u, hr⟩ := relay_ends s
  obtain ⟨hcfg, hseq, hlast, -⟩ := relay_frame hr
  refine ⟨u, ?_, ?_, hseq, hlast, relay_keeps_heartbeatCount hr⟩
  · rw [exec_loopIter hc]
    exact iteration_of_variant1 hr (hcfg ▸ hv)
  · rw [exec_relay hc, hr, answer_ended]

end Sys2Proof.Machine
end

section
/-! SUPPORT. Who writes `SEQ` and `LAST`, and who writes the wire (spec 10_state R24, R25, R30): what each operation
that answers leaves unchanged. -/

namespace Sys2Proof.Machine

/-! ### What a step with a decision can answer -/

theorem rxPoll_answer_eq_next {s t : State} (h : (rxPoll s).answer = .next t) : t = s := by
  unfold rxPoll at h
  split at h <;> cases h <;> rfl

theorem rxAssemble_answer_eq_next {s t : State} (h : (rxAssemble s).answer = .next t) :
    ∃ f rest, s.rxq = f.toBytes ++ rest ∧ t = setRxq rest (setFrame f s) := by
  by_cases hlen : s.rxq.length < 8
  · rw [rxAssemble_of_short hlen] at h; cases h
  · obtain ⟨f, hf⟩ := exists_frame_of_length (Nat.not_lt.mp hlen)
    rw [rxAssemble_of_frame hf] at h; cases h
    exact ⟨f, _, hf, rfl⟩

theorem chkVerify_answer_eq_next {s t : State} (h : (chkVerify s).answer = .next t) :
    (s.f.valid = true ∧ t = setAcc s.f.crc s) ∨
    (s.f.valid = false ∧ t = diag .checksumMismatch (setAcc s.f.crc s)) := by
  cases hv : s.f.valid with
  | true => rw [chkVerify_of_valid hv] at h; cases h; exact .inl ⟨rfl, rfl⟩
  | false => rw [chkVerify_of_invalid hv] at h; cases h; exact .inr ⟨rfl, rfl⟩

theorem dstMatch_answer_eq_next {s t : State} (h : (dstMatch s).answer = .next t) :
    (s.f.dst = s.cfg.localId ∧ t = s) ∨ (s.f.dst ≠ s.cfg.localId ∧ t = diag .notAddressedHere s) := by
  by_cases hd : s.f.dst = s.cfg.localId
  · rw [dstMatch_of_local hd] at h; cases h; exact .inl ⟨hd, rfl⟩
  · rw [dstMatch_of_foreign hd] at h; cases h; exact .inr ⟨hd, rfl⟩

theorem hbCheck_answer_eq_next {s t : State} {n : Nat} (h : (hbCheck n s).answer = .next t) : t = s := by
  unfold hbCheck at h
  split at h <;> cases h <;> rfl

/-! ### The two kinds of writers -/

/-- `HB.ADVANCE`, and what runs it. -/
def advances : Instr → Bool
  | .hbAdvance _ | .heartbeat | .hbEmit | .loopIter => true
  | _ => false

/-- `TX.FWD` and `HB.TX`, and what runs them. -/
def transmits : Instr → Bool
  | .txFwd | .hbTx | .relay | .relayFwd _ | .heartbeat | .hbEmit | .loopIter => true
  | _ => false

/-- Every operation that answers leaves `SEQ` and `LAST` alone unless it advances, and the wire unless it transmits. -/
theorem exec_keeps {i : Instr} {s t : State} (h : exec i s = .next t) :
    (advances i = false → t.seq = s.seq ∧ t.last = s.last) ∧ (transmits i = false → t.txlog = s.txlog) := by
  cases i with
  | crc8Round | crc8Byte _ | crc8Buf _ | crc8Frame | pathStamp | srcStamp | chkStamp | diagFwd =>
    simp only [exec, execCrc8Round, execCrc8Byte, execCrc8Buf, execCrc8Frame, execPathStamp, execSrcStamp,
      execChkStamp, execDiagFwd, onUnit_eq_next] at h
    obtain ⟨-, ⟨⟩⟩ := h
    exact ⟨fun _ => ⟨rfl, rfl⟩, fun _ => rfl⟩
  | hbBuild | hbDiag =>
    simp only [exec, execHbBuild, execHbDiag, onOriginator_eq_next] at h
    obtain ⟨-, -, ⟨⟩⟩ := h
    exact ⟨fun _ => ⟨rfl, rfl⟩, fun _ => rfl⟩
  | rxPoll =>
    simp only [exec, execRxPoll, onUnit_eq_next] at h
    obtain ⟨-, hk⟩ := h
    rw [rxPoll_answer_eq_next hk]; exact ⟨fun _ => ⟨rfl, rfl⟩, fun _ => rfl⟩
  | hbCheck =>
    simp only [exec, execHbCheck, onOriginator_eq_next] at h
    obtain ⟨-, -, hk⟩ := h
    rw [hbCheck_answer_eq_next hk]; exact ⟨fun _ => ⟨rfl, rfl⟩, fun _ => rfl⟩
  | rxAssemble =>
    simp only [exec, execRxAssemble, onUnit_eq_next] at h
    obtain ⟨-, hk⟩ := h
    obtain ⟨f, rest, -, rfl⟩ := rxAssemble_answer_eq_next hk
    exact ⟨fun _ => ⟨rfl, rfl⟩, fun _ => rfl⟩
  | chkVerify =>
    simp only [exec, execChkVerify, onUnit_eq_next] at h
    obtain ⟨-, hk⟩ := h
    obtain ⟨-, rfl⟩ | ⟨-, rfl⟩ := chkVerify_answer_eq_next hk <;> exact ⟨fun _ => ⟨rfl, rfl⟩, fun _ => rfl⟩
  | dstMatch =>
    simp only [exec, execDstMatch, onUnit_eq_next] at h
    obtain ⟨-, hk⟩ := h
    obtain ⟨-, rfl⟩ | ⟨-, rfl⟩ := dstMatch_answer_eq_next hk <;> exact ⟨fun _ => ⟨rfl, rfl⟩, fun _ => rfl⟩
  | relayIdle | relayDropChk _ | relayDropDst _ =>
    simp only [exec, execRelayIdle, execRelayDropChk, execRelayDropDst, onUnit_eq_next, onOutcome_eq_next] at h
    obtain ⟨-, -, rfl⟩ := h
    exact ⟨fun _ => ⟨rfl, rfl⟩, fun _ => rfl⟩
  | hbIdle =>
    simp only [exec, execHbIdle, onOriginator_eq_next, onOutcome_eq_next] at h
    obtain ⟨-, -, -, rfl⟩ := h
    exact ⟨fun _ => ⟨rfl, rfl⟩, fun _ => rfl⟩
  | txFwd =>
    simp only [exec, execTxFwd, onUnit_eq_next] at h
    obtain ⟨-, ⟨⟩⟩ := h
    exact ⟨fun _ => ⟨rfl, rfl⟩, nofun⟩
  | hbTx =>
    simp only [exec, execHbTx, onOriginator_eq_next] at h
    obtain ⟨-, -, ⟨⟩⟩ := h
    exact ⟨fun _ => ⟨rfl, rfl⟩, nofun⟩
  | relayFwd _ =>
    simp only [exec, execRelayFwd, onUnit_eq_next, onOutcome_eq_next] at h
    obtain ⟨-, -, rfl⟩ := h
    exact ⟨fun _ => ⟨rfl, rfl⟩, nofun⟩
  | relay =>
    obtain ⟨o, u, hr⟩ := relay_ends s
    rw [exec_relay (wf_of_exec_eq_next h), hr] at h
    cases h
    obtain ⟨-, hseq, hlast, -⟩ := relay_frame hr
    exact ⟨fun _ => ⟨hseq, hlast⟩, nofun⟩
  | hbAdvance _ =>
    simp only [exec, execHbAdvance, onOriginator_eq_next] at h
    obtain ⟨-, -, ⟨⟩⟩ := h
    exact ⟨nofun, fun _ => rfl⟩
  | heartbeat | hbEmit | loopIter => exact ⟨nofun, nofun⟩

/-- Settles O48: what the statement leaves out is what advances. -/
theorem onlyTheAdvanceWritesSeqAndLast : Obligations.OnlyTheAdvanceWritesSeqAndLast := by
  unfold Obligations.OnlyTheAdvanceWritesSeqAndLast
  intro i s t h hadvance hheartbeat hemit hloop
  refine (exec_keeps h).1 ?_
  cases i with
  | hbAdvance n => exact absurd rfl (hadvance n)
  | heartbeat | hbEmit | loopIter => contradiction
  | _ => rfl

/-- Settles O49: what the statement leaves out is what transmits. -/
theorem onlyTheTransmitStepsWriteTheWire : Obligations.OnlyTheTransmitStepsWriteTheWire := by
  unfold Obligations.OnlyTheTransmitStepsWriteTheWire
  intro i s t h htxFwd hhbTx hrelay hrelayFwd hheartbeat hemit hloop
  refine (exec_keeps h).2 ?_
  cases i with
  | relayFwd f => exact absurd rfl (hrelayFwd f)
  | txFwd | hbTx | relay | heartbeat | hbEmit | loopIter => contradiction
  | _ => rfl

end Sys2Proof.Machine
end

section
/-! SUPPORT. The byte streams and logs (spec 20_memory R42, R46 to R52): what an operation takes from `RXQ`, what it adds
to `TXLOG` and `DIAGLOG`, and what it leaves unchanged. -/

namespace Sys2Proof.Machine

/-! ### One access to each stream (R91, R97) -/

theorem exec_rxAssemble {s : State} {f : Frame} {rest : List Byte} (hc : s.cfg.wf = true)
    (h : s.rxq = f.toBytes ++ rest) : exec .rxAssemble s = .next (setRxq rest (setFrame f s)) := by
  rw [exec, execRxAssemble, onUnit_of_wf hc, rxAssemble_of_frame h, answer_go]

theorem exec_txFwd {s : State} (hc : s.cfg.wf = true) : exec .txFwd s = .next (txWrite s.f.toBytes s) := by
  rw [exec, execTxFwd, onUnit_of_wf hc, txFwd, answer_go]

/-- Settles O13: the eight bytes at the head of the stream are the bytes of one frame, in offset order. -/
theorem rxAssembleFillsBufferInWireOrder : Obligations.RxAssembleFillsBufferInWireOrder := by
  unfold Obligations.RxAssembleFillsBufferInWireOrder
  intro s b0 b1 b2 b3 b4 b5 b6 b7 rest hc hrxq
  exact exec_rxAssemble (f := ⟨b0, b1, b2, b3, b4, b5, b6, b7⟩) hc hrxq

/-- Settles O20: the unit written is the buffer's bytes in offset order. -/
theorem txFwdWritesOneUnitOfEightBytes : Obligations.TxFwdWritesOneUnitOfEightBytes := by
  unfold Obligations.TxFwdWritesOneUnitOfEightBytes
  intro s hc
  exact exec_txFwd hc

/-! ### Output only -/

/-- `t` is `s` after writes to `F`, `ACC`, `SEQ` and `LAST`, and additions to the two logs. -/
structure Extends (s t : State) : Prop where
  cfg_eq : t.cfg = s.cfg
  now_eq : t.now = s.now
  script_eq : t.script = s.script
  draws_eq : t.draws = s.draws
  rxq_eq : t.rxq = s.rxq
  txlog_prefix : s.txlog <+: t.txlog
  diaglog_prefix : s.diaglog <+: t.diaglog

namespace Extends

variable {s t u : State}

theorem refl (s : State) : Extends s s := ⟨rfl, rfl, rfl, rfl, rfl, List.prefix_rfl, List.prefix_rfl⟩

theorem trans (h : Extends s t) (h' : Extends t u) : Extends s u where
  cfg_eq := h'.cfg_eq.trans h.cfg_eq
  now_eq := h'.now_eq.trans h.now_eq
  script_eq := h'.script_eq.trans h.script_eq
  draws_eq := h'.draws_eq.trans h.draws_eq
  rxq_eq := h'.rxq_eq.trans h.rxq_eq
  txlog_prefix := h.txlog_prefix.trans h'.txlog_prefix
  diaglog_prefix := h.diaglog_prefix.trans h'.diaglog_prefix

theorem setFrame (h : Extends s t) (f : Frame) : Extends s (setFrame f t) := { h with }

theorem setAcc (h : Extends s t) (a : Byte) : Extends s (setAcc a t) := { h with }

theorem setOriginator (h : Extends s t) (n l : Nat) : Extends s (setOriginator n l t) := { h with }

theorem txWrite (h : Extends s t) (l : List Byte) : Extends s (txWrite l t) :=
  { h with txlog_prefix := h.txlog_prefix.trans (List.prefix_append ..) }

theorem diag (h : Extends s t) (r : DiagRecord) : Extends s (diag r t) :=
  { h with diaglog_prefix := h.diaglog_prefix.trans (List.prefix_append ..) }

end Extends

theorem extends_emitted (n : Nat) (s : State) : Extends s (emitted n s) :=
  ((((((Extends.refl s).setFrame _).setAcc _).txWrite _).txWrite _).setOriginator _ _).diag _

theorem heartbeat_extends {s t : State} {o : HbOutcome} (h : heartbeat s = .ended o t) : Extends s t := by
  obtain ⟨-, hh⟩ | ⟨-, hh⟩ := heartbeat_cases s <;> cases hh.symm.trans h
  · exact .refl s
  · exact extends_emitted s.now s

/-! ### Input: eight bytes or none (R46) -/

/-- `t` is `s`, possibly with one group of eight bytes taken from the head of `RXQ`, after output only. -/
def Moves (s t : State) : Prop :=
  Extends s t ∨ 8 ≤ s.rxq.length ∧ Extends (setRxq (s.rxq.drop 8) s) t

theorem Moves.trans_extends {s t u : State} (h : Moves s t) (h' : Extends t u) : Moves s u :=
  h.imp (·.trans h') (And.imp_right (·.trans h'))

theorem moves_dropped {s : State} (h : 8 ≤ s.rxq.length) (r : DiagRecord) (f : Frame) : Moves s (dropped r f s) :=
  .inr ⟨h, (((Extends.refl _).setFrame _).setAcc _).diag _⟩

theorem moves_forwarded {s : State} (h : 8 ≤ s.rxq.length) (f : Frame) : Moves s (forwarded f s) :=
  .inr ⟨h, ((((Extends.refl _).setFrame _).setAcc _).txWrite _).diag _⟩

theorem moves_assembled {s : State} {f : Frame} {rest : List Byte} (h : s.rxq = f.toBytes ++ rest) :
    Moves s (setRxq rest (setFrame f s)) := by
  have hdrop : s.rxq.drop 8 = rest := by rw [h]; rfl
  refine .inr ⟨by simp [h], ?_⟩
  rw [hdrop]
  exact (Extends.refl (setRxq rest s)).setFrame f

theorem relay_moves {s t : State} {o : RelayOutcome} (h : relay s = .ended o t) : Moves s t := by
  obtain ⟨-, hr⟩ | ⟨f, hf, hgroup⟩ := relay_cases s
  · cases hr.symm.trans h
    exact .inl (.refl s)
  · have hlen : 8 ≤ s.rxq.length := by rw [hf]; simp
    obtain ⟨-, hr⟩ | ⟨-, -, hr⟩ | ⟨-, -, hr⟩ := hgroup <;> cases hr.symm.trans h
    · exact moves_dropped hlen _ f
    · exact moves_dropped hlen _ f
    · exact moves_forwarded hlen f

/-- One iteration is `RELAY` and then, if at all, `HEARTBEAT` (R125); it always answers. -/
theorem iteration_ends (s : State) :
    ∃ o t u, relay s = .ended o t ∧ (u = t ∨ ∃ o', heartbeat t = .ended o' u) ∧ iteration s = .next u := by
  obtain ⟨o, t, hr⟩ := relay_ends s
  cases hv : t.cfg.hasHb with
  | false => exact ⟨o, t, t, hr, .inl rfl, iteration_of_variant1 hr hv⟩
  | true =>
    obtain ⟨o', u, hh⟩ := heartbeat_ends t
    exact ⟨o, t, u, hr, .inr ⟨o', hh⟩, iteration_of_variant2 hr hv hh⟩

theorem iteration_moves {s u : State} (h : iteration s = .next u) : Moves s u := by
  obtain ⟨o, t, v, hr, hv, hi⟩ := iteration_ends s
  cases hi.symm.trans h
  obtain rfl | ⟨o', hh⟩ := hv
  · exact relay_moves hr
  · exact (relay_moves hr).trans_extends (heartbeat_extends hh)

/-- An outcome other than `RELAY.IDLE` is read from eight bytes (R72). -/
theorem length_of_selects {s : State} {i : Instr} {rest : List Byte} (h : selects s i rest = true)
    (hi : i ≠ .relayIdle) : 8 ≤ s.rxq.length := by
  rw [selects_iff] at h
  by_contra hlen
  cases hc : s.cfg.wf with
  | false => simp [decode, hc] at h
  | true =>
    rw [decode_of_short hc (Nat.not_le.mp hlen)] at h
    cases h
    exact hi rfl

/-- Every operation that answers takes eight bytes or none, and otherwise only outputs. -/
theorem exec_moves {i : Instr} {s t : State} (h : exec i s = .next t) : Moves s t := by
  cases i with
  | crc8Round | crc8Byte _ | crc8Buf _ | crc8Frame =>
    simp only [exec, execCrc8Round, execCrc8Byte, execCrc8Buf, execCrc8Frame, onUnit_eq_next] at h
    obtain ⟨-, ⟨⟩⟩ := h
    exact .inl ((Extends.refl s).setAcc _)
  | pathStamp | srcStamp =>
    simp only [exec, execPathStamp, execSrcStamp, onUnit_eq_next] at h
    obtain ⟨-, ⟨⟩⟩ := h
    exact .inl ((Extends.refl s).setFrame _)
  | chkStamp =>
    simp only [exec, execChkStamp, onUnit_eq_next] at h
    obtain ⟨-, ⟨⟩⟩ := h
    exact .inl (((Extends.refl s).setAcc _).setFrame _)
  | txFwd =>
    simp only [exec, execTxFwd, onUnit_eq_next] at h
    obtain ⟨-, ⟨⟩⟩ := h
    exact .inl ((Extends.refl s).txWrite _)
  | diagFwd =>
    simp only [exec, execDiagFwd, onUnit_eq_next] at h
    obtain ⟨-, ⟨⟩⟩ := h
    exact .inl ((Extends.refl s).diag _)
  | rxPoll =>
    simp only [exec, execRxPoll, onUnit_eq_next] at h
    obtain ⟨-, hk⟩ := h
    rw [rxPoll_answer_eq_next hk]
    exact .inl (.refl s)
  | rxAssemble =>
    simp only [exec, execRxAssemble, onUnit_eq_next] at h
    obtain ⟨-, hk⟩ := h
    obtain ⟨f, rest, hf, rfl⟩ := rxAssemble_answer_eq_next hk
    exact moves_assembled hf
  | chkVerify =>
    simp only [exec, execChkVerify, onUnit_eq_next] at h
    obtain ⟨-, hk⟩ := h
    obtain ⟨-, rfl⟩ | ⟨-, rfl⟩ := chkVerify_answer_eq_next hk
    · exact .inl ((Extends.refl s).setAcc _)
    · exact .inl (((Extends.refl s).setAcc _).diag _)
  | dstMatch =>
    simp only [exec, execDstMatch, onUnit_eq_next] at h
    obtain ⟨-, hk⟩ := h
    obtain ⟨-, rfl⟩ | ⟨-, rfl⟩ := dstMatch_answer_eq_next hk
    · exact .inl (.refl _)
    · exact .inl ((Extends.refl s).diag _)
  | relay =>
    obtain ⟨o, u, hr⟩ := relay_ends s
    rw [exec_relay (wf_of_exec_eq_next h), hr] at h
    cases h
    exact relay_moves hr
  | relayIdle =>
    simp only [exec, execRelayIdle, onUnit_eq_next, onOutcome_eq_next] at h
    obtain ⟨-, -, rfl⟩ := h
    exact .inl (.refl s)
  | relayDropChk _ | relayDropDst _ =>
    simp only [exec, execRelayDropChk, execRelayDropDst, onUnit_eq_next, onOutcome_eq_next] at h
    obtain ⟨-, hsel, rfl⟩ := h
    exact moves_dropped (length_of_selects hsel nofun) _ _
  | relayFwd f =>
    simp only [exec, execRelayFwd, onUnit_eq_next, onOutcome_eq_next] at h
    obtain ⟨-, hsel, rfl⟩ := h
    exact moves_forwarded (length_of_selects hsel nofun) f
  | hbCheck =>
    simp only [exec, execHbCheck, onOriginator_eq_next] at h
    obtain ⟨-, -, hk⟩ := h
    rw [hbCheck_answer_eq_next hk]
    exact .inl (.refl s)
  | hbBuild =>
    simp only [exec, execHbBuild, onOriginator_eq_next] at h
    obtain ⟨-, -, ⟨⟩⟩ := h
    exact .inl ((((Extends.refl s).setFrame _).setAcc _).setFrame _)
  | hbTx =>
    simp only [exec, execHbTx, onOriginator_eq_next] at h
    obtain ⟨-, -, ⟨⟩⟩ := h
    exact .inl (((Extends.refl s).txWrite _).txWrite _)
  | hbAdvance _ =>
    simp only [exec, execHbAdvance, onOriginator_eq_next] at h
    obtain ⟨-, -, ⟨⟩⟩ := h
    exact .inl ((Extends.refl s).setOriginator _ _)
  | hbDiag =>
    simp only [exec, execHbDiag, onOriginator_eq_next] at h
    obtain ⟨-, -, ⟨⟩⟩ := h
    exact .inl ((Extends.refl s).diag _)
  | heartbeat =>
    simp only [exec, execHeartbeat, onOriginator_eq_next] at h
    obtain ⟨-, -, hk⟩ := h
    obtain ⟨o, u, hh⟩ := heartbeat_ends s
    rw [hh] at hk
    cases hk
    exact .inl (heartbeat_extends hh)
  | hbIdle =>
    simp only [exec, execHbIdle, onOriginator_eq_next, onOutcome_eq_next] at h
    obtain ⟨-, -, -, rfl⟩ := h
    exact .inl (.refl s)
  | hbEmit =>
    simp only [exec, execHbEmit, onOriginator_eq_next, onOutcome_eq_next] at h
    obtain ⟨-, -, -, rfl⟩ := h
    exact .inl (extends_emitted _ s)
  | loopIter =>
    rw [exec_loopIter (wf_of_exec_eq_next h)] at h
    exact iteration_moves h

/-- Settles O47: whether or not a group is taken from `RXQ`, the rest of the operation only outputs. -/
theorem operationsOnlyPopInputAndAppendOutput : Obligations.OperationsOnlyPopInputAndAppendOutput := by
  unfold Obligations.OperationsOnlyPopInputAndAppendOutput
  intro i s t h
  obtain ⟨hcfg, hnow, hscript, hdraws, hrxq, htx, hdiag⟩ | ⟨hlen, hcfg, hnow, hscript, hdraws, hrxq, htx, hdiag⟩ :=
    exec_moves h
  · exact ⟨hcfg, hnow, hscript, hdraws, .inl hrxq, htx, hdiag⟩
  · exact ⟨hcfg, hnow, hscript, hdraws, .inr ⟨hrxq, hlen⟩, htx, hdiag⟩

end Sys2Proof.Machine
end

section
/-! SUPPORT. Counting off by eights (spec 20_memory R44, R46; 43_sequencer R130): what one iteration and what `n`
iterations do to `RXQ` and to the relay's records. -/

namespace Sys2Proof.Machine

/-! ### The relay's record of a group -/

theorem relayRecord_of_short {bs : List Byte} (c : Config) (h : bs.length < 8) : relayRecord c bs = [] := by
  rw [relayRecord, takeFrame_eq_none.mpr h]

theorem relayRecord_of_frame (c : Config) (f : Frame) (rest : List Byte) :
    relayRecord c (f.toBytes ++ rest) =
      if f.valid then if f.dst = c.localId then [.forwarded (stamped c f)] else [.notAddressedHere]
      else [.checksumMismatch] := by
  rw [relayRecord, takeFrame_toBytes]

/-- Every record the relay makes of a group is one of its own kinds. -/
theorem filter_ofRelay_relayRecord (c : Config) (bs : List Byte) :
    (relayRecord c bs).filter DiagRecord.ofRelay = relayRecord c bs := by
  unfold relayRecord
  split
  · split
    · split <;> rfl
    · rfl
  · rfl

/-- `RELAY` adds to `DIAGLOG` exactly its record of the group at the head of `RXQ`. -/
theorem relay_diaglog_eq {s t : State} {o : RelayOutcome} (h : relay s = .ended o t) :
    t.diaglog = s.diaglog ++ relayRecord s.cfg s.rxq := by
  obtain ⟨hlen, hr⟩ | ⟨f, hf, ⟨hv, hr⟩ | ⟨hv, hd, hr⟩ | ⟨hv, hd, hr⟩⟩ := relay_cases s <;> cases hr.symm.trans h
  · rw [relayRecord_of_short _ hlen, List.append_nil]
  · rw [hf, relayRecord_of_frame]; simp [dropped, hv]
  · rw [hf, relayRecord_of_frame]; simp [dropped, hv, hd]
  · rw [hf, relayRecord_of_frame]; simp [forwarded, hv, hd]

/-- `RELAY` takes a whole group when there is one. -/
theorem relay_rxq {s t : State} {o : RelayOutcome} (h : relay s = .ended o t) :
    t.rxq = if s.rxq.length < 8 then s.rxq else s.rxq.drop 8 := by
  obtain ⟨hlen, hr⟩ | ⟨f, hf, hgroup⟩ := relay_cases s
  · cases hr.symm.trans h
    rw [if_pos hlen]
  · have hlen : ¬ s.rxq.length < 8 := by rw [hf]; simp
    rw [if_neg hlen]
    obtain ⟨-, hr⟩ | ⟨-, -, hr⟩ | ⟨-, -, hr⟩ := hgroup <;> cases hr.symm.trans h <;> rfl

/-- `HEARTBEAT` adds no record of the relay's kinds. -/
theorem heartbeat_relay_records {s t : State} {o : HbOutcome} (h : heartbeat s = .ended o t) :
    t.diaglog.filter DiagRecord.ofRelay = s.diaglog.filter DiagRecord.ofRelay := by
  obtain ⟨-, hh⟩ | ⟨-, hh⟩ := heartbeat_cases s <;> cases hh.symm.trans h
  · rfl
  · simp [emitted, DiagRecord.ofRelay]

/-! ### One iteration -/

/-- One iteration handles the group at the head of `RXQ`, if there is one, whatever the originator does. -/
theorem exec_loopIter_group {s : State} (hc : s.cfg.wf = true) :
    ∃ u, exec .loopIter s = .next u ∧ u.cfg = s.cfg ∧
      u.rxq = (if s.rxq.length < 8 then s.rxq else s.rxq.drop 8) ∧
      u.diaglog.filter DiagRecord.ofRelay = s.diaglog.filter DiagRecord.ofRelay ++ relayRecord s.cfg s.rxq := by
  obtain ⟨o, t, u, hr, hu, hi⟩ := iteration_ends s
  have hcfg : t.cfg = s.cfg := (relay_frame hr).1
  have hrec : t.diaglog.filter DiagRecord.ofRelay =
      s.diaglog.filter DiagRecord.ofRelay ++ relayRecord s.cfg s.rxq := by
    rw [relay_diaglog_eq hr, List.filter_append, filter_ofRelay_relayRecord]
  refine ⟨u, (exec_loopIter hc).trans hi, ?_⟩
  obtain rfl | ⟨o', hh⟩ := hu
  · exact ⟨hcfg, relay_rxq hr, hrec⟩
  · have hext := heartbeat_extends hh
    exact ⟨hext.cfg_eq.trans hcfg, hext.rxq_eq.trans (relay_rxq hr), (heartbeat_relay_records hh).trans hrec⟩

/-! ### `n` iterations -/

theorem iterate_succ {s u : State} (n : Nat) (h : exec .loopIter s = .next u) : iterate (n + 1) s = iterate n u := by
  rw [iterate, h, afterwards_next]

/-- `n` iterations handle the first `g` groups, in order, where `g` is `n` or, if fewer wait, the number that wait. -/
theorem iterate_groups (n : Nat) {s : State} {g : Nat} (hc : s.cfg.wf = true) (hg : g = min n (s.rxq.length / 8)) :
    ∃ t, iterate n s = .next t ∧ t.rxq = s.rxq.drop (8 * g) ∧
      t.diaglog.filter DiagRecord.ofRelay = s.diaglog.filter DiagRecord.ofRelay ++
        (List.range g).flatMap (fun k => relayRecord s.cfg (s.rxq.drop (8 * k))) := by
  induction n generalizing s g with
  | zero =>
    obtain rfl : g = 0 := by omega
    exact ⟨s, rfl, rfl, (List.append_nil _).symm⟩
  | succ n ih =>
    obtain ⟨u, hexec, hcfg, hrxq, hrec⟩ := exec_loopIter_group hc
    rw [iterate_succ n hexec]
    by_cases hlen : s.rxq.length < 8
    · rw [if_pos hlen] at hrxq
      rw [relayRecord_of_short _ hlen, List.append_nil] at hrec
      obtain ⟨t, ht, htrxq, htrec⟩ := ih (s := u) (g := g) (hcfg ▸ hc) (by rw [hrxq]; omega)
      exact ⟨t, ht, by rw [htrxq, hrxq], by rw [htrec, hrec, hcfg, hrxq]⟩
    · rw [if_neg hlen] at hrxq
      obtain ⟨g, rfl⟩ : ∃ g', g = g' + 1 := Nat.exists_eq_succ_of_ne_zero (by omega)
      obtain ⟨t, ht, htrxq, htrec⟩ := ih (s := u) (g := g) (hcfg ▸ hc) (by rw [hrxq, List.length_drop]; omega)
      have hdrop (k : Nat) : u.rxq.drop (8 * k) = s.rxq.drop (8 * (k + 1)) := by
        rw [hrxq, List.drop_drop, Nat.mul_succ, Nat.add_comm]
      refine ⟨t, ht, htrxq.trans (hdrop g), ?_⟩
      simp only [htrec, hrec, hcfg, hdrop, List.range_succ_eq_map, List.flatMap_cons, List.flatMap_map,
        Nat.mul_zero, List.drop_zero, List.append_assoc]

/-- Settles O58: with `n` groups waiting, `n` iterations handle `n` groups. -/
theorem framesAreCountedOffByEights : Obligations.FramesAreCountedOffByEights := by
  unfold Obligations.FramesAreCountedOffByEights
  intro n s hc hlen
  exact iterate_groups n hc (by omega)

/-- Settles O59: with at most `n` groups waiting, `n` iterations handle them all, and the rest is shorter than one. -/
theorem waitingFramesAreAllHandled : Obligations.WaitingFramesAreAllHandled := by
  unfold Obligations.WaitingFramesAreAllHandled
  intro n s hc hn
  obtain ⟨t, ht, hrxq, -⟩ := iterate_groups n hc (Nat.min_eq_right hn).symm
  exact ⟨t, ht, hrxq, by rw [hrxq, List.length_drop]; omega⟩

end Sys2Proof.Machine
end

section
/-! SUPPORT. The wire between two units (spec 20_memory R49; 95_test_vectors P4): what `HB.EMIT` writes is a frame. -/

namespace Sys2Proof.Machine

@[simp] theorem valid_heartbeatFrame (c : Config) (n : Nat) : (heartbeatFrame c n).valid = true := Frame.valid_sealed _

@[simp] theorem heartbeatFrame_dst (c : Config) (n : Nat) : (heartbeatFrame c n).dst = c.collectorId := rfl

/-- A heartbeat is written as two units, the header and the checksum byte (R49). -/
theorem emitted_txlog (n : Nat) (s : State) :
    (emitted n s).txlog = s.txlog ++ [(heartbeatFrame s.cfg s.seq).header, [(heartbeatFrame s.cfg s.seq).chk]] := by
  simp [emitted]

/-- The bytes a heartbeat puts on the wire, its two units joined, are those of one frame. -/
theorem emitted_wire (n : Nat) (s : State) :
    ((emitted n s).txlog.drop s.txlog.length).flatten = (heartbeatFrame s.cfg s.seq).toBytes := by
  rw [emitted_txlog, List.drop_left]; rfl

theorem emitted_of_hbEmit {s t : State} (h : exec .hbEmit s = .next t) : t = emitted s.now s := by
  simp only [exec, execHbEmit, onOriginator_eq_next, onOutcome_eq_next] at h
  obtain ⟨-, -, -, ht⟩ := h
  exact ht.symm

/-- Settles O43: the frame on the wire is valid and addressed to the collector, which therefore forwards it. -/
theorem collectorRelaysAHeartbeat : Obligations.CollectorRelaysAHeartbeat := by
  unfold Obligations.CollectorRelaysAHeartbeat
  intro a b u rest _ _ hb hid hemit hrxq
  rw [emitted_of_hbEmit hemit, emitted_wire] at hrxq
  have hr := relay_of_local hrxq (valid_heartbeatFrame ..) ((heartbeatFrame_dst ..).trans hid.symm)
  refine ⟨forwarded (heartbeatFrame a.cfg a.seq) b, ?_, ?_, rfl⟩
  · rw [exec_relay hb, hr, answer_ended]
  · calc (forwarded (heartbeatFrame a.cfg a.seq) b).rxq = b.rxq.drop 8 := rfl
      _ = rest := by rw [hrxq]; rfl

end Sys2Proof.Machine
end

section
/-! SUPPORT. The decoder and the encoder of outcomes (spec 30_encoding R72, R73): the outcome a frame selects, and the
inversion of the decoder. -/

namespace Sys2Proof

theorem Config.localId_bounds {c : Config} (h : c.wf = true) : 1 ≤ c.localId.toNat ∧ c.localId.toNat ≤ 7 := by
  simp only [Config.wf, Bool.and_eq_true, decide_eq_true_eq] at h
  omega

theorem Frame.valid_eq_false_iff (f : Frame) : f.valid = false ↔ f.chk ≠ crcBuf f.header := by
  rw [← Bool.not_eq_true, Frame.valid_iff]

theorem drop_toBytes (f : Frame) (rest : List Byte) : (f.toBytes ++ rest).drop 8 = rest := rfl

/-! ### The outcome a frame selects, in the order of R72 -/

theorem classify_of_invalid (c : Config) {f : Frame} (hv : f.valid = false) : classify c f = .relayDropChk f := by
  simp [classify, hv]

theorem classify_of_foreign {c : Config} {f : Frame} (hv : f.valid = true) (hd : f.dst ≠ c.localId) :
    classify c f = .relayDropDst f := by
  simp [classify, hv, hd]

theorem classify_of_local {c : Config} {f : Frame} (hv : f.valid = true) (hd : f.dst = c.localId) :
    classify c f = .relayFwd f := by
  simp [classify, hv, hd]

/-- The outcome is one of three, each with its condition. -/
theorem classify_cases (c : Config) (f : Frame) :
    (f.valid = false ∧ classify c f = .relayDropChk f) ∨
    (f.valid = true ∧ f.dst ≠ c.localId ∧ classify c f = .relayDropDst f) ∨
    (f.valid = true ∧ f.dst = c.localId ∧ classify c f = .relayFwd f) := by
  cases hv : f.valid with
  | false => exact .inl ⟨rfl, classify_of_invalid c hv⟩
  | true =>
    by_cases hd : f.dst = c.localId
    · exact .inr (.inr ⟨rfl, hd, classify_of_local hv hd⟩)
    · exact .inr (.inl ⟨rfl, hd, classify_of_foreign hv hd⟩)

theorem Instr.wf_classify {c : Config} (hc : c.wf = true) (f : Frame) : (classify c f).wf c = true := by
  obtain ⟨hv, h⟩ | ⟨hv, hd, h⟩ | ⟨hv, hd, h⟩ := classify_cases c f
  · simp [h, Instr.wf, hc, hv]
  · simp [h, Instr.wf, hc, hv, hd]
  · simp [h, Instr.wf, hc, hv, hd]

theorem encode_classify (c : Config) (f : Frame) : encode (classify c f) = some f.toBytes := by
  obtain ⟨-, h⟩ | ⟨-, -, h⟩ | ⟨-, -, h⟩ := classify_cases c f <;> rw [h, encode]

theorem Instr.config_wf {c : Config} {i : Instr} (h : i.wf c = true) : c.wf = true := by
  unfold Instr.wf at h
  exact (Bool.and_eq_true_iff.mp h).1

/-- A well-formed outcome that has bytes is the one its own frame selects. -/
theorem exists_classify_of_encode {c : Config} {i : Instr} {bs : List Byte} (hi : i.wf c = true)
    (h : encode i = some bs) : ∃ f : Frame, bs = f.toBytes ∧ classify c f = i := by
  cases i with
  | relayDropChk f =>
    cases h
    have hv : f.valid = false := by simp_all [Instr.wf]
    exact ⟨f, rfl, classify_of_invalid c hv⟩
  | relayDropDst f =>
    cases h
    obtain ⟨hv, hd⟩ : f.valid = true ∧ f.dst ≠ c.localId := by simp_all [Instr.wf]
    exact ⟨f, rfl, classify_of_foreign hv hd⟩
  | relayFwd f =>
    cases h
    obtain ⟨hv, hd⟩ : f.valid = true ∧ f.dst = c.localId := by simp_all [Instr.wf]
    exact ⟨f, rfl, classify_of_local hv hd⟩
  | _ => cases h

/-- What the decoder answers: `RELAY.IDLE` on fewer than eight bytes, otherwise the outcome of the first eight. -/
theorem decode_eq_instr {c : Config} {bs rest : List Byte} {i : Instr} (h : decode c bs = .instr i rest) :
    c.wf = true ∧ ((bs.length < 8 ∧ i = .relayIdle ∧ rest = bs) ∨
      ∃ f : Frame, bs = f.toBytes ++ rest ∧ i = classify c f) := by
  cases hc : c.wf with
  | false => simp [decode, hc] at h
  | true =>
    refine ⟨rfl, ?_⟩
    by_cases hlen : bs.length < 8
    · rw [Machine.decode_of_short hc hlen] at h
      cases h
      exact .inl ⟨hlen, rfl, rfl⟩
    · obtain ⟨f, hf⟩ := exists_frame_of_length (Nat.not_lt.mp hlen)
      rw [hf, Machine.decode_of_frame f _ hc] at h
      cases h
      exact .inr ⟨f, hf, rfl⟩

/-- Settles O27: both directions go through the frame, whose outcome `classify` names. -/
theorem outcomesRoundTripThroughTheirBytes : Obligations.OutcomesRoundTripThroughTheirBytes := by
  unfold Obligations.OutcomesRoundTripThroughTheirBytes
  constructor
  · intro c i bs rest hi henc
    obtain ⟨f, rfl, rfl⟩ := exists_classify_of_encode hi henc
    exact Machine.decode_of_frame f rest (Instr.config_wf hi)
  · intro c bs rest i hdec hidle
    obtain ⟨hc, ⟨-, rfl, -⟩ | ⟨f, rfl, rfl⟩⟩ := decode_eq_instr hdec
    · exact absurd rfl hidle
    · exact ⟨Instr.wf_classify hc f, f.toBytes, encode_classify c f, rfl⟩

/-- No node is named by a DST of 0x00, or of 8 and above (R68, R73). -/
theorem ne_localId_of_no_node {c : Config} (hc : c.wf = true) {d : Byte} (hd : d = 0x00#8 ∨ 8 ≤ d.toNat) :
    d ≠ c.localId := by
  have hbounds := Config.localId_bounds hc
  rintro rfl
  obtain hzero | hlarge := hd
  · simp [hzero] at hbounds
  · omega

/-- Settles O26: the decoder's three cases, and the three outcomes of a frame. -/
theorem decoderClassifiesEveryStream : Obligations.DecoderClassifiesEveryStream := by
  unfold Obligations.DecoderClassifiesEveryStream
  refine ⟨fun c bs hc => by simp [decode, hc], fun c bs hc hlen => Machine.decode_of_short hc hlen, ?_⟩
  intro c f rest hc
  rw [Machine.decode_of_frame f rest hc, ← f.valid_iff, ← f.valid_eq_false_iff]
  refine ⟨fun hv => ?_, fun hv hd => ?_, fun hv hd => ?_, fun hv hd => ?_⟩
  · rw [classify_of_invalid c hv]
  · rw [classify_of_foreign hv hd]
  · rw [classify_of_local hv hd]
  · rw [classify_of_foreign hv (ne_localId_of_no_node hc hd)]

/-! ### The frame as a 64-bit word (R60, D15) -/

/-- The eight fields read from a word are adjacent, and together they are all its bits. -/
theorem Frame.toWord_ofWord (w : BitVec 64) : (Frame.ofWord w).toWord = w := by
  simp only [Frame.ofWord, Frame.toWord, BitVec.extractLsb'_append_extractLsb'_eq_extractLsb']
  exact BitVec.extractLsb'_eq_self

/-- The last byte of a word and what stands before it are both determined by the word. -/
theorem append_byte_inj {v : Nat} {x x' : BitVec v} {y y' : Byte} (h : x ++ y = x' ++ y') : x = x' ∧ y = y' := by
  constructor
  · rw [← BitVec.extractLsb'_append_eq_left (a := x) (b := y), h, BitVec.extractLsb'_append_eq_left]
  · rw [← BitVec.extractLsb'_append_eq_right (a := x) (b := y), h, BitVec.extractLsb'_append_eq_right]

/-- The word holds the whole frame: its bytes come off one by one from the low end. -/
theorem Frame.toWord_injective : Function.Injective Frame.toWord := by
  intro f g h
  obtain ⟨h, hchk⟩ := append_byte_inj h
  obtain ⟨h, hpath⟩ := append_byte_inj h
  obtain ⟨h, hdata1⟩ := append_byte_inj h
  obtain ⟨h, hdata0⟩ := append_byte_inj h
  obtain ⟨h, hfunc⟩ := append_byte_inj h
  obtain ⟨h, hdst⟩ := append_byte_inj h
  obtain ⟨hid, hsrc⟩ := append_byte_inj h
  cases f; cases g; simp_all

theorem Frame.ofWord_toWord (f : Frame) : Frame.ofWord f.toWord = f :=
  Frame.toWord_injective (Frame.toWord_ofWord f.toWord)

/-- Settles O28: the bit fields of the word are the fields of the frame read from it, which is the frame. -/
theorem frameWordPutsOffsetZeroFirst : Obligations.FrameWordPutsOffsetZeroFirst := by
  unfold Obligations.FrameWordPutsOffsetZeroFirst
  intro f w
  have h := Frame.ofWord_toWord f
  exact ⟨congrArg Frame.id h, congrArg Frame.src h, congrArg Frame.dst h, congrArg Frame.func h, congrArg Frame.data0 h,
    congrArg Frame.data1 h, congrArg Frame.path h, congrArg Frame.chk h, h, Frame.toWord_ofWord w⟩

end Sys2Proof
end

section
/-! SUPPORT. The outcome rows beside `RELAY` and the step (spec 30_encoding R72; 60_exceptions R156; 43_sequencer R125). -/

namespace Sys2Proof.Machine

/-! ### Each outcome row where its condition holds -/

theorem exec_relayIdle {s : State} (hc : s.cfg.wf = true) (h : s.rxq.length < 8) : exec .relayIdle s = .next s := by
  have hsel : selects s .relayIdle s.rxq = true := selects_iff.mpr (decode_of_short hc h)
  rw [exec, execRelayIdle, onUnit_of_wf hc, onOutcome_eq_next]
  exact ⟨hsel, rfl⟩

section
variable {s : State} {f : Frame} {rest : List Byte} (hc : s.cfg.wf = true) (h : s.rxq = f.toBytes ++ rest)
include hc h

/-- The unit's decoder reads the outcome of the frame at the head of `RXQ`. -/
theorem selects_classify : selects s (classify s.cfg f) (s.rxq.drop 8) = true := by
  rw [selects_iff, h, drop_toBytes, decode_of_frame f rest hc]

theorem exec_relayDropChk (hv : f.valid = false) :
    exec (.relayDropChk f) s = .next (dropped .checksumMismatch f s) := by
  have hsel := selects_classify hc h
  rw [classify_of_invalid s.cfg hv] at hsel
  rw [exec, execRelayDropChk, onUnit_of_wf hc, onOutcome_eq_next]
  exact ⟨hsel, rfl⟩

theorem exec_relayDropDst (hv : f.valid = true) (hd : f.dst ≠ s.cfg.localId) :
    exec (.relayDropDst f) s = .next (dropped .notAddressedHere f s) := by
  have hsel := selects_classify hc h
  rw [classify_of_foreign hv hd] at hsel
  rw [exec, execRelayDropDst, onUnit_of_wf hc, onOutcome_eq_next]
  exact ⟨hsel, rfl⟩

theorem exec_relayFwd (hv : f.valid = true) (hd : f.dst = s.cfg.localId) :
    exec (.relayFwd f) s = .next (forwarded f s) := by
  have hsel := selects_classify hc h
  rw [classify_of_local hv hd] at hsel
  rw [exec, execRelayFwd, onUnit_of_wf hc, onOutcome_eq_next]
  exact ⟨hsel, rfl⟩

/-- The nine steps and the row of the frame's outcome answer the same. -/
theorem exec_relay_eq_classify : exec .relay s = exec (classify s.cfg f) s := by
  rw [exec_relay hc]
  obtain ⟨hv, hi⟩ | ⟨hv, hd, hi⟩ | ⟨hv, hd, hi⟩ := classify_cases s.cfg f
  · rw [hi, exec_relayDropChk hc h hv, relay_of_invalid h hv, answer_ended]
  · rw [hi, exec_relayDropDst hc h hv hd, relay_of_foreign h hv hd, answer_ended]
  · rw [hi, exec_relayFwd hc h hv hd, relay_of_local h hv hd, answer_ended]

end

theorem dropped_eq {s : State} {f : Frame} {rest : List Byte} (r : DiagRecord) (h : s.rxq = f.toBytes ++ rest) :
    dropped r f s = { s with rxq := rest, f := f, acc := f.crc, diaglog := s.diaglog ++ [r] } := by
  rw [dropped, h, drop_toBytes]; rfl

theorem forwarded_eq {s : State} {f : Frame} {rest : List Byte} (h : s.rxq = f.toBytes ++ rest) :
    forwarded f s =
      { s with rxq := rest, f := stamped s.cfg f, acc := (stamped s.cfg f).chk,
               txlog := s.txlog ++ [(stamped s.cfg f).toBytes],
               diaglog := s.diaglog ++ [.forwarded (stamped s.cfg f)] } := by
  rw [forwarded, h, drop_toBytes]; rfl

/-- Settles O25: each row answers its declarative state, written out field by field. -/
theorem relayOutcomesHaveTheirEffects : Obligations.RelayOutcomesHaveTheirEffects := by
  unfold Obligations.RelayOutcomesHaveTheirEffects
  intro s hc
  refine ⟨exec_relayIdle hc, fun f rest h => ⟨fun hv => ?_, fun hv hd => ?_, fun hv hd => ?_⟩⟩
  · rw [exec_relayDropChk hc h hv, dropped_eq _ h]
  · rw [exec_relayDropDst hc h hv hd, dropped_eq _ h]
  · rw [exec_relayFwd hc h hv hd, forwarded_eq h]

/-! ### `RELAY` and the step run what the decoder reads -/

theorem exec_relay_eq_decoded {s : State} {i : Instr} {rest : List Byte} (h : decode s.cfg s.rxq = .instr i rest) :
    exec .relay s = exec i s := by
  obtain ⟨hc, ⟨hlen, rfl, -⟩ | ⟨f, hf, rfl⟩⟩ := decode_eq_instr h
  · rw [exec_relay hc, exec_relayIdle hc hlen, relay_of_short hlen, answer_ended]
  · exact exec_relay_eq_classify hc hf

/-- What the decoder leaves of the stream is what `RELAY` leaves of it. -/
theorem relay_rxq_of_decoded {s t : State} {i : Instr} {rest : List Byte} {o : RelayOutcome}
    (h : decode s.cfg s.rxq = .instr i rest) (hr : relay s = .ended o t) : t.rxq = rest := by
  rw [relay_rxq hr]
  obtain ⟨-, ⟨hlen, -, rfl⟩ | ⟨f, hf, -⟩⟩ := decode_eq_instr h
  · rw [if_pos hlen]
  · rw [if_neg (by simp [hf]), hf, drop_toBytes]

/-- Settles O24: the row answers what `RELAY` answers, and `RELAY` always ends. -/
theorem relayRunsTheDecodedOutcome : Obligations.RelayRunsTheDecodedOutcome := by
  unfold Obligations.RelayRunsTheDecodedOutcome
  intro s i rest h
  have hrow := exec_relay_eq_decoded h
  obtain ⟨o, t, hr⟩ := relay_ends s
  refine ⟨hrow, t, ?_, relay_rxq_of_decoded h hr⟩
  rw [← hrow, exec_relay (decode_eq_instr h).1, hr, answer_ended]

theorem exec_heartbeat {s : State} (hc : s.cfg.wf = true) (hv : s.cfg.hasHb = true) :
    exec .heartbeat s = (heartbeat s).answer :=
  onOriginator_of_variant2 (k := fun s => (heartbeat s).answer) hc hv

/-- One iteration is the operation `RELAY` and after it, in variant 2, the operation `HEARTBEAT` (R125). -/
theorem exec_loopIter_eq_afterwards {s : State} (hc : s.cfg.wf = true) :
    exec .loopIter s =
      afterwards (exec .relay s) fun u => if u.cfg.hasHb = true then exec .heartbeat u else .next u := by
  obtain ⟨o, u, hr⟩ := relay_ends s
  have hu : u.cfg.wf = true := by rw [(relay_frame hr).1, hc]
  rw [exec_loopIter hc, iteration, exec_relay hc, hr, answer_ended, afterwards_next, afterwards_next]
  split <;> rename_i hv
  · rw [exec_heartbeat hu hv]
  · rfl

theorem nextTurn_of_iter {s : State} {t : Nat} {es : List EnvEvent} (h : s.script = .iter t :: es) :
    nextTurn s = .unit (takeSample t { s with script := es }) := by
  rw [nextTurn, h]

/-- Settles O51: the step is an iteration, its `RELAY` is the decoded outcome, and the sample changes neither `RXQ` nor
the configuration. -/
theorem stepRunsTheDecodedOutcome : Obligations.StepRunsTheDecodedOutcome := by
  unfold Obligations.StepRunsTheDecodedOutcome
  intro s t es i rest hscript hdec
  have hc : s.cfg.wf = true := (decode_eq_instr hdec).1
  have hdec' : decode (takeSample t { s with script := es }).cfg (takeSample t { s with script := es }).rxq =
      .instr i rest := by rw [takeSample_cfg, takeSample_rxq]; exact hdec
  rw [step_of_unit hc (nextTurn_of_iter hscript), exec_loopIter_eq_afterwards (by rw [takeSample_cfg]; exact hc),
    exec_relay_eq_decoded hdec']

end Sys2Proof.Machine
end

section
/-! SUPPORT. Operand assembly (spec 30_encoding R69, R70): the PATH mask and the heartbeat frame, and what a changed PATH
does to a checksum (40_crc8 R80, R81). -/

namespace Sys2Proof

/-- Undoing a round: bit 0 after it is bit 7 before it, because the generator's bit 0 is set (R80). -/
def crcUnround (a : Byte) : Byte := if a.getLsbD 0 then ((a ^^^ 0x07#8) >>> 1) ||| 0x80#8 else a >>> 1

theorem crcUnround_crcRound : Function.LeftInverse crcUnround crcRound := by
  unfold Function.LeftInverse
  decide

/-- The byte absorbed can be told from the accumulator after it (R81). -/
theorem crcByte_injective (a : Byte) : Function.Injective (crcByte a) := by
  intro b c h
  rw [crcByte, crcByte, crcRounds_eq_iterate, crcRounds_eq_iterate] at h
  exact (BitVec.xor_right_inj a).mp (crcUnround_crcRound.injective.iterate 8 h)

/-- PATH is the last byte the checksum absorbs, so a valid frame has one PATH for its other seven bytes. -/
theorem Frame.path_eq_of_valid {f : Frame} {p : Byte} (hf : f.valid = true)
    (hp : ({ f with path := p } : Frame).valid = true) : p = f.path := by
  rw [Frame.valid_iff] at hf hp
  exact crcByte_injective (crcBuf [f.id, f.src, f.dst, f.func, f.data0, f.data1]) (hp.symm.trans hf)

end Sys2Proof

namespace Sys2Proof.Machine

/-- The mask has one bit, because `LOCAL_ID` - 1 is below 8 (R69). -/
theorem getLsbD_pathMask {c : Config} (hc : c.wf = true) (k : Nat) :
    (pathMask c.localId).getLsbD k = decide (k = c.localId.toNat - 1) := by
  obtain ⟨-, hle⟩ := Config.localId_bounds hc
  rw [pathMask, BitVec.getLsbD_ofNat, Nat.one_shiftLeft, Nat.testBit_two_pow, ← Bool.decide_and, decide_eq_decide]
  omega

theorem exec_pathStamp {s : State} (hc : s.cfg.wf = true) :
    exec .pathStamp s = .next { s with f := { s.f with path := s.f.path ||| pathMask s.cfg.localId } } := by
  rw [exec, execPathStamp, onUnit_of_wf hc]; rfl

/-- Settles O17: the mask is the own bit; a frame still valid after the stamp would carry the bit already. -/
theorem pathStampSetsOwnBitAndKeepsOthers : Obligations.PathStampSetsOwnBitAndKeepsOthers := by
  unfold Obligations.PathStampSetsOwnBitAndKeepsOthers
  intro s hc
  have hbits (k : Nat) : (s.f.path ||| pathMask s.cfg.localId).getLsbD k =
      (s.f.path.getLsbD k || decide (k = s.cfg.localId.toNat - 1)) := by
    rw [BitVec.getLsbD_or, getLsbD_pathMask hc]
  refine ⟨_, exec_pathStamp hc, rfl, hbits, fun hvalid hclear => ?_⟩
  by_contra hstamped
  have hsame := Frame.path_eq_of_valid hvalid (Bool.eq_true_of_not_eq_false hstamped)
  have hset := hbits (s.cfg.localId.toNat - 1)
  rw [hsame, hclear] at hset
  simp at hset

/-- Building a heartbeat leaves its frame in `F` and the frame's checksum in `ACC` (R112). -/
theorem exec_hbBuild {s : State} (hc : s.cfg.wf = true) (hv : s.cfg.hasHb = true) :
    exec .hbBuild s =
      .next { s with f := heartbeatFrame s.cfg s.seq, acc := (heartbeatFrame s.cfg s.seq).chk } := by
  rw [exec, execHbBuild, onOriginator_of_variant2 hc hv]; rfl

/-- Settles O35: the frame built is the heartbeat frame of `SEQ`. -/
theorem hbBuildSynthesizesTheFrame : Obligations.HbBuildSynthesizesTheFrame := by
  unfold Obligations.HbBuildSynthesizesTheFrame
  intro s hc hv
  exact exec_hbBuild hc hv

end Sys2Proof.Machine
end

section
/-! SUPPORT. The checksum operations on `ACC` (40_crc8 R80, R82): what each answers, and the loop over a list as a fold. -/

namespace Sys2Proof

theorem crcByte_eq_iterate (a b : Byte) : crcByte a b = crcRound^[8] (a ^^^ b) :=
  crcRounds_eq_iterate 8 _

theorem crcBuf_eq_foldl (l : List Byte) :
    crcBuf l = l.foldl (fun a b => crcRound^[8] (a ^^^ b)) 0x00#8 := by
  have hbyte : crcByte = fun a b => crcRound^[8] (a ^^^ b) := funext₂ crcByte_eq_iterate
  rw [crcBuf, crcFrom_eq_foldl, hbyte]

/-- A round does not move zero, so neither does absorbing a zero byte (R81). -/
@[simp] theorem crcByte_zero_zero : crcByte 0x00#8 0x00#8 = 0x00#8 := by
  rw [crcByte_eq_iterate, BitVec.xor_self]
  exact Function.iterate_fixed (by decide) 8

@[simp] theorem crcBuf_replicate_zero (n : Nat) : crcBuf (List.replicate n 0x00#8) = 0x00#8 := by
  rw [crcBuf]
  induction n with
  | zero => rfl
  | succ n ih => rw [List.replicate_succ, crcFrom_cons, crcByte_zero_zero, ih]

end Sys2Proof

namespace Sys2Proof.Machine

theorem exec_crc8Round {s : State} (hc : s.cfg.wf = true) :
    exec .crc8Round s = .next { s with acc := crcRound s.acc } := by
  rw [exec, execCrc8Round, onUnit_of_wf hc]; rfl

theorem exec_crc8Buf {s : State} (hc : s.cfg.wf = true) (l : List Byte) :
    exec (.crc8Buf l) s = .next { s with acc := crcBuf l } := by
  rw [exec, execCrc8Buf, onUnit_of_wf hc]; rfl

/-- Settles O3: `ACC` becomes the checksum of the list, which is the fold, and zero when every byte is zero. -/
theorem crc8BufAbsorbsBytesInOrderFromZero : Obligations.Crc8BufAbsorbsBytesInOrderFromZero := by
  unfold Obligations.Crc8BufAbsorbsBytesInOrderFromZero
  intro s hc
  refine ⟨fun l => ?_, fun n => ?_⟩
  · rw [exec_crc8Buf hc, crcBuf_eq_foldl]
  · rw [exec_crc8Buf hc, crcBuf_replicate_zero]

/-- Settles O1: `ACC` becomes its round, whose test reads the bit before the shift. -/
theorem crc8RoundShiftsAndReduces : Obligations.Crc8RoundShiftsAndReduces := by
  unfold Obligations.Crc8RoundShiftsAndReduces
  intro s hc
  rw [exec_crc8Round hc, crcRound]

end Sys2Proof.Machine
end

section
/-! SUPPORT. The Frame Relay (spec 41_relay R90 to R99): what each step answers, and `RELAY` as one function of a group and
as its nine steps. -/

namespace Sys2Proof.Machine

/-! ### `RX.POLL` and `DST.MATCH` (R90, R93) -/

theorem exec_rxPoll {s : State} (hc : s.cfg.wf = true) : exec .rxPoll s = .next s := by
  rw [exec, execRxPoll, onUnit_of_wf hc, rxPoll]
  split <;> rfl

theorem exec_dstMatch {s : State} (hc : s.cfg.wf = true) : exec .dstMatch s = (dstMatch s).answer :=
  onUnit_of_wf (k := fun s => (dstMatch s).answer) hc

theorem exec_relay_of_short {s : State} (hc : s.cfg.wf = true) (h : s.rxq.length < 8) : exec .relay s = .next s := by
  rw [exec_relay hc, relay_of_short h, answer_ended]

/-- Settles O12: the poll decides on the number of bytes and changes nothing either way. -/
theorem rxPollEndsRelayOnFewerThanEightBytes : Obligations.RxPollEndsRelayOnFewerThanEightBytes := by
  unfold Obligations.RxPollEndsRelayOnFewerThanEightBytes
  intro s hc
  exact ⟨exec_rxPoll hc, rxPoll_of_ready, fun h => ⟨rxPoll_of_short h, exec_relay_of_short hc h⟩⟩

/-- Settles O16: a foreign destination raises, which is one record and nothing else. -/
theorem dstMatchRaisesOnForeignDestination : Obligations.DstMatchRaisesOnForeignDestination := by
  unfold Obligations.DstMatchRaisesOnForeignDestination
  intro s hc
  refine ⟨fun hd => ?_, fun hd => ?_⟩
  · rw [exec_dstMatch hc, dstMatch_of_local hd]
    exact ⟨rfl, rfl⟩
  · rw [exec_dstMatch hc, dstMatch_of_foreign hd, raise_eq]
    exact ⟨rfl, rfl⟩

/-! ### The steps on a valid frame for this node -/

theorem exec_chkVerify_of_valid {s : State} (hc : s.cfg.wf = true) (hv : s.f.valid = true) :
    exec .chkVerify s = .next (setAcc s.f.crc s) := by
  rw [exec, execChkVerify, onUnit_of_wf hc, chkVerify_of_valid hv, answer_go]

theorem exec_dstMatch_of_local {s : State} (hc : s.cfg.wf = true) (hd : s.f.dst = s.cfg.localId) :
    exec .dstMatch s = .next s := by
  rw [exec_dstMatch hc, dstMatch_of_local hd, answer_go]

theorem exec_srcStamp {s : State} (hc : s.cfg.wf = true) :
    exec .srcStamp s = .next (setFrame { s.f with src := s.cfg.localId } s) := by
  rw [exec, execSrcStamp, onUnit_of_wf hc, srcStamp, answer_go]

theorem exec_chkStamp {s : State} (hc : s.cfg.wf = true) :
    exec .chkStamp s = .next (setFrame s.f.sealed (setAcc s.f.crc s)) := by
  rw [exec, execChkStamp, onUnit_of_wf hc]; rfl

theorem exec_diagFwd {s : State} (hc : s.cfg.wf = true) : exec .diagFwd s = .next (diag (.forwarded s.f) s) := by
  rw [exec, execDiagFwd, onUnit_of_wf hc, diagFwd, answer_go]

section
variable {s : State} {f : Frame} {rest : List Byte} (hc : s.cfg.wf = true) (h : s.rxq = f.toBytes ++ rest)
include hc h

theorem exec_relay_of_invalid (hv : f.valid = false) : exec .relay s = .next (dropped .checksumMismatch f s) := by
  rw [exec_relay hc, relay_of_invalid h hv, answer_ended]

theorem exec_relay_of_foreign (hv : f.valid = true) (hd : f.dst ≠ s.cfg.localId) :
    exec .relay s = .next (dropped .notAddressedHere f s) := by
  rw [exec_relay hc, relay_of_foreign h hv hd, answer_ended]

theorem exec_relay_of_local (hv : f.valid = true) (hd : f.dst = s.cfg.localId) :
    exec .relay s = .next (forwarded f s) := by
  rw [exec_relay hc, relay_of_local h hv hd, answer_ended]

/-- The nine steps, run as operations one after another, forward a valid frame for this node. -/
theorem relay_steps_of_local (hv : f.valid = true) (hd : f.dst = s.cfg.localId) :
    [Instr.rxPoll, .rxAssemble, .chkVerify, .dstMatch, .pathStamp, .srcStamp, .chkStamp, .txFwd, .diagFwd].foldl
      (fun m i => afterwards m (exec i)) (.next s) = .next (forwarded f s) := by
  have hready := exec_rxPoll hc
  have hassemble := exec_rxAssemble hc h
  have hverify : exec .chkVerify (setRxq rest (setFrame f s)) = .next (setAcc f.crc (setRxq rest (setFrame f s))) :=
    exec_chkVerify_of_valid hc hv
  have hmatch : exec .dstMatch (setAcc f.crc (setRxq rest (setFrame f s))) = _ := exec_dstMatch_of_local hc hd
  simp only [List.foldl_cons, List.foldl_nil, afterwards_next, hready, hassemble, hverify, hmatch, exec_pathStamp,
    exec_srcStamp, exec_chkStamp, exec_txFwd, exec_diagFwd, setFrame_cfg, setRxq_cfg, setAcc_cfg, txWrite_cfg, hc]
  rw [forwarded_eq h]; rfl

end

/-- Settles O23: the four ends of `RELAY`, the one with a frame for this node also as its nine steps. -/
theorem relayIsOneFunctionOfTheGroup : Obligations.RelayIsOneFunctionOfTheGroup := by
  unfold Obligations.RelayIsOneFunctionOfTheGroup
  intro s hc
  refine ⟨exec_relay_of_short hc, fun f rest h => ⟨?_, fun hk hd => ?_⟩⟩
  · by_cases hk : f.chk = crcBuf f.header
    · have hv := (Frame.valid_iff f).mpr hk
      rw [if_neg (not_not.mpr hk)]
      by_cases hd : f.dst = s.cfg.localId
      · rw [if_neg (not_not.mpr hd), exec_relay_of_local hc h hv hd, forwarded_eq h]; rfl
      · rw [if_pos hd, exec_relay_of_foreign hc h hv hd, dropped_eq _ h]; rfl
    · rw [if_pos hk, exec_relay_of_invalid hc h ((Frame.valid_eq_false_iff f).mpr hk), dropped_eq _ h]; rfl
  · have hv := (Frame.valid_iff f).mpr hk
    rw [relay_steps_of_local hc h hv hd, exec_relay_of_local hc h hv hd]

end Sys2Proof.Machine
end

section
/-! SUPPORT. Properties of the relay (spec 41_relay R100, R102): the frame it sends. -/

namespace Sys2Proof.Machine

@[simp] theorem valid_stamped (c : Config) (f : Frame) : (stamped c f).valid = true := Frame.valid_sealed _

/-- The stamp adds the own PATH bit to the bits received (R69, R94). -/
theorem getLsbD_path_stamped {c : Config} (hc : c.wf = true) (f : Frame) (k : Nat) :
    (stamped c f).path.getLsbD k = (f.path.getLsbD k || decide (k = c.localId.toNat - 1)) := by
  rw [← getLsbD_pathMask hc, ← BitVec.getLsbD_or]; rfl

/-- Settles O30: the frame sent is the stamped one; sealing changed CHK only. -/
theorem sealedFrameIsForwardedMarkedAndValid : Obligations.SealedFrameIsForwardedMarkedAndValid := by
  unfold Obligations.SealedFrameIsForwardedMarkedAndValid
  intro s g rest hc hd h
  have hpath := getLsbD_path_stamped hc g.sealed
  refine ⟨forwarded g.sealed s, stamped s.cfg g.sealed, exec_relay_of_local hc h (Frame.valid_sealed g) hd, rfl,
    valid_stamped .., rfl, hd, ?_, fun k hk => ?_, rfl, rfl, rfl, rfl⟩
  · simp [hpath]
  · have hkept : g.sealed.path.getLsbD k = true := hk
    rw [hpath, hkept, Bool.true_or]

/-! ### `RELAY` beside `HEARTBEAT` (R100, R118) -/

/-- `RELAY` does not look at the originator's registers or at the clock, and carries them along. -/
theorem relay_withOriginator {s t : State} {o : RelayOutcome} (q l n : Nat) (h : relay s = .ended o t) :
    relay { s with seq := q, last := l, now := n } = .ended o { t with seq := q, last := l, now := n } := by
  obtain ⟨hlen, hr⟩ | ⟨f, hf, ⟨hv, hr⟩ | ⟨hv, hd, hr⟩ | ⟨hv, hd, hr⟩⟩ := relay_cases s <;> cases hr.symm.trans h
  · exact relay_of_short (s := { s with seq := q, last := l, now := n }) hlen
  · exact relay_of_invalid (s := { s with seq := q, last := l, now := n }) hf hv
  · exact relay_of_foreign (s := { s with seq := q, last := l, now := n }) hf hv hd
  · exact relay_of_local (s := { s with seq := q, last := l, now := n }) hf hv hd

/-- `HEARTBEAT` does not look at `F`, `ACC` or `RXQ`, and carries `RXQ` along. -/
theorem heartbeat_withInput {s t : State} {o : HbOutcome} (f : Frame) (a : Byte) (bs : List Byte)
    (h : heartbeat s = .ended o t) :
    ∃ g b, heartbeat { s with f := f, acc := a, rxq := bs } = .ended o { t with f := g, acc := b, rxq := bs } := by
  obtain ⟨hdue, hh⟩ | ⟨hdue, hh⟩ := heartbeat_cases s <;> cases hh.symm.trans h
  · exact ⟨f, a, heartbeat_of_not_due (s := { s with f := f, acc := a, rxq := bs }) hdue⟩
  · exact ⟨_, _, heartbeat_of_due (s := { s with f := f, acc := a, rxq := bs }) hdue⟩

/-- Settles O33: each operation carries along what it does not look at. -/
theorem relayAndHeartbeatAreIndependent : Obligations.RelayAndHeartbeatAreIndependent := by
  unfold Obligations.RelayAndHeartbeatAreIndependent
  refine ⟨fun s t q l n h => ?_, fun s t f a bs h => ?_⟩
  · have hc := wf_of_exec_eq_next h
    obtain ⟨o, u, hr⟩ := relay_ends s
    rw [exec_relay hc, hr] at h
    cases h
    obtain ⟨-, hseq, hlast, hnow, -⟩ := relay_frame hr
    refine ⟨hseq, hlast, hnow, ?_⟩
    rw [exec_relay (s := { s with seq := q, last := l, now := n }) hc, relay_withOriginator q l n hr, answer_ended]
  · have hc := wf_of_exec_eq_next h
    have hv := variant2_of_heartbeat_eq_next h
    obtain ⟨o, u, hh⟩ := heartbeat_ends s
    rw [exec_heartbeat hc hv, hh] at h
    cases h
    obtain ⟨g, b, hh'⟩ := heartbeat_withInput f a bs hh
    refine ⟨(heartbeat_extends hh).rxq_eq, { t with f := g, acc := b, rxq := bs }, ?_, rfl, rfl, rfl, rfl, rfl⟩
    rw [exec_heartbeat (s := { s with f := f, acc := a, rxq := bs }) hc hv, hh', answer_ended]

end Sys2Proof.Machine
end

section
/-! SUPPORT. The Heartbeat Originator (spec 42_heartbeat R111 to R117): what each step answers, `HEARTBEAT` as one function
of the sample and as its five steps, and what two checks in a row report. -/

namespace Sys2Proof.Machine

/-! ### Elapsed time (R111): the two cases of the modular difference -/

theorem elapsed_of_le {w t last : Nat} (ht : t < 2 ^ w) (h : last ≤ t) : elapsed w t last = t - last := by
  rw [elapsed, ← Nat.cast_sub h, ← Int.natCast_mod, Int.toNat_natCast]
  exact Nat.mod_eq_of_lt (by omega)

/-- The sample has wrapped: the remainder is the difference plus one whole turn of the clock. -/
theorem elapsed_of_lt {w t last : Nat} (hlast : last < 2 ^ w) (h : t < last) :
    elapsed w t last = t + 2 ^ w - last := by
  have hturn : (t : Int) - last + (2 ^ w : Nat) = (t + 2 ^ w - last : Nat) := by omega
  rw [elapsed, ← Int.add_emod_right, hturn, ← Int.natCast_mod, Int.toNat_natCast]
  exact Nat.mod_eq_of_lt (by omega)

theorem hbDue_iff {t : Nat} {s : State} : hbDue t s = true ↔ s.cfg.hbInterval ≤ elapsed s.cfg.timeW t s.last :=
  decide_eq_true_iff

theorem hbDue_eq_false_iff {t : Nat} {s : State} :
    hbDue t s = false ↔ ¬ s.cfg.hbInterval ≤ elapsed s.cfg.timeW t s.last :=
  decide_eq_false_iff_not

/-! ### The other three steps (R113 to R115) -/

theorem txWrite_txWrite (l m : List Byte) (s : State) :
    txWrite m (txWrite l s) = { s with txlog := s.txlog ++ [l, m] } := by
  simp [txWrite]

/-- The counter wraps to 0 and not to 1 (R114). -/
theorem nextSeq_max (w : Nat) : nextSeq w (2 ^ w - 1) = 0 := by
  rw [nextSeq, Nat.sub_add_cancel Nat.one_le_two_pow, Nat.mod_self]

section
variable {s : State} (hc : s.cfg.wf = true) (hv : s.cfg.hasHb = true)
include hc hv

theorem exec_hbCheck : exec .hbCheck s = .next s := by
  rw [exec, execHbCheck, onOriginator_of_variant2 hc hv, hbCheck]
  split <;> rfl

theorem exec_hbTx : exec .hbTx s = .next { s with txlog := s.txlog ++ [s.f.header, [s.f.chk]] } := by
  rw [exec, execHbTx, onOriginator_of_variant2 hc hv, hbTx, answer_go, txWrite_txWrite]

theorem exec_hbAdvance {t : Nat} (ht : t < 2 ^ s.cfg.timeW) :
    exec (.hbAdvance t) s = .next (setOriginator (nextSeq s.cfg.seqW s.seq) t s) := by
  rw [exec, execHbAdvance, onOriginator_of_variant2 hc hv, hbAdvance, answer_go, Nat.mod_eq_of_lt ht]

theorem exec_hbDiag : exec .hbDiag s = .next (diag .heartbeatSent s) := by
  rw [exec, execHbDiag, onOriginator_of_variant2 hc hv, hbDiag, answer_go]

/-! ### `HEARTBEAT` (R116) -/

theorem exec_heartbeat_of_due (h : s.cfg.hbInterval ≤ elapsed s.cfg.timeW s.now s.last) :
    exec .heartbeat s = .next (emitted s.now s) := by
  rw [exec_heartbeat hc hv, heartbeat_of_due (hbDue_iff.mpr h), answer_ended]

theorem exec_heartbeat_of_not_due (h : ¬ s.cfg.hbInterval ≤ elapsed s.cfg.timeW s.now s.last) :
    exec .heartbeat s = .next s := by
  rw [exec_heartbeat hc hv, heartbeat_of_not_due (hbDue_eq_false_iff.mpr h), answer_ended]

end

theorem emitted_eq {s : State} {t : Nat} (ht : t < 2 ^ s.cfg.timeW) :
    emitted t s =
      { s with f := heartbeatFrame s.cfg s.seq, acc := (heartbeatFrame s.cfg s.seq).chk,
               txlog := s.txlog ++ [(heartbeatFrame s.cfg s.seq).header, [(heartbeatFrame s.cfg s.seq).chk]],
               seq := nextSeq s.cfg.seqW s.seq, last := t, diaglog := s.diaglog ++ [.heartbeatSent] } := by
  rw [emitted, txWrite_txWrite, Nat.mod_eq_of_lt ht]; rfl

/-- The five steps, run as operations one after another with the one sample, emit the heartbeat. -/
theorem heartbeat_steps {s : State} (hc : s.cfg.wf = true) (hv : s.cfg.hasHb = true) (ht : s.now < 2 ^ s.cfg.timeW) :
    [Instr.hbCheck, .hbBuild, .hbTx, .hbAdvance s.now, .hbDiag].foldl
      (fun m i => afterwards m (exec i)) (.next s) = .next (emitted s.now s) := by
  simp only [List.foldl_cons, List.foldl_nil, afterwards_next, exec_hbCheck, exec_hbBuild, exec_hbTx, exec_hbAdvance,
    exec_hbDiag, setOriginator_cfg, hc, hv, ht]
  rw [emitted_eq ht]; rfl

/-! ### What a check reports (R117) -/

theorem heartbeatCount_emitted (t : Nat) (s : State) :
    heartbeatCount (emitted t s).diaglog = heartbeatCount s.diaglog + 1 :=
  heartbeatCount_append s.diaglog [.heartbeatSent]

/-- A check reports one heartbeat when due and none otherwise, however much time has passed. -/
theorem exec_heartbeat_counts {s : State} (hc : s.cfg.wf = true) (hv : s.cfg.hasHb = true) :
    ∃ v, exec .heartbeat s = .next v ∧
      heartbeatCount v.diaglog = heartbeatCount s.diaglog +
        (if s.cfg.hbInterval ≤ elapsed s.cfg.timeW s.now s.last then 1 else 0) := by
  by_cases hdue : s.cfg.hbInterval ≤ elapsed s.cfg.timeW s.now s.last
  · rw [if_pos hdue]
    exact ⟨_, exec_heartbeat_of_due hc hv hdue, heartbeatCount_emitted s.now s⟩
  · rw [if_neg hdue]
    exact ⟨_, exec_heartbeat_of_not_due hc hv hdue, rfl⟩

/-! ### The statements -/

/-- Settles O34: the check only decides, and the elapsed time is the difference, with one turn added after a wrap. -/
theorem hbCheckComparesElapsedTime : Obligations.HbCheckComparesElapsedTime := by
  unfold Obligations.HbCheckComparesElapsedTime
  refine ⟨fun s hc hv => ⟨exec_hbCheck hc hv, fun t => ?_⟩, fun w t last ht hlast => ?_⟩
  · split
    · next hdue => exact hbCheck_of_due hdue
    · next hdue => exact hbCheck_of_not_due (Nat.not_le.mp hdue)
  · split
    · next hle => exact elapsed_of_le ht hle
    · next hlt => exact elapsed_of_lt hlast (Nat.not_le.mp hlt)

/-- Settles O39: the heartbeat sent is the heartbeat frame of `SEQ`, whether by the operation or by its five steps. -/
theorem heartbeatIsOneFunctionOfTheSample : Obligations.HeartbeatIsOneFunctionOfTheSample := by
  unfold Obligations.HeartbeatIsOneFunctionOfTheSample
  intro s hc hv ht
  refine ⟨?_, fun hdue => ?_⟩
  · split
    · next hdue => rw [exec_heartbeat_of_due hc hv hdue, emitted_eq ht]; rfl
    · next hdue => exact exec_heartbeat_of_not_due hc hv hdue
  · rw [heartbeat_steps hc hv ht, exec_heartbeat_of_due hc hv hdue]

/-- Settles O42: the first check emits and stores its sample, against which the second check compares. -/
theorem missedIntervalsAreNotMadeUp : Obligations.MissedIntervalsAreNotMadeUp := by
  unfold Obligations.MissedIntervalsAreNotMadeUp
  intro s u t' hv ht _ hdue hu
  have hc := wf_of_exec_eq_next hu
  rw [exec_heartbeat_of_due hc hv hdue] at hu
  cases hu
  have hlast : (emitted s.now s).last = s.now := Nat.mod_eq_of_lt ht
  refine ⟨heartbeatCount_emitted s.now s, hlast, ?_⟩
  have hsecond := exec_heartbeat_counts (s := { emitted s.now s with now := t' }) hc hv
  rw [hlast] at hsecond
  exact hsecond

/-- Settles O36: the two units are the header and the checksum byte. -/
theorem hbTxWritesSevenBytesThenOne : Obligations.HbTxWritesSevenBytesThenOne := by
  unfold Obligations.HbTxWritesSevenBytesThenOne
  intro s hc hv
  exact exec_hbTx hc hv

/-- Settles O37: the two registers are written together, and the highest value of `SEQ` steps to 0. -/
theorem hbAdvanceStepsSeqAndRestartsInterval : Obligations.HbAdvanceStepsSeqAndRestartsInterval := by
  unfold Obligations.HbAdvanceStepsSeqAndRestartsInterval
  intro s t hc hv ht
  refine ⟨exec_hbAdvance hc hv ht, fun hmax => ?_⟩
  rw [exec_hbAdvance hc hv ht, hmax, nextSeq_max]; rfl

end Sys2Proof.Machine
end

section
/-! SUPPORT. The sequencer (spec 43_sequencer R126 to R129; 60_exceptions R156): what comes next for each event, that a
step always answers, and bytes that arrive during an iteration. -/

namespace Sys2Proof.Machine

/-! ### What comes next (R129, R160), beside `nextTurn_of_iter` -/

section
variable {s : State} {es : List EnvEvent}

theorem nextTurn_of_reset (h : s.script = .reset :: es) :
    nextTurn s = .environment (resetUnit { s with script := es }) := by
  rw [nextTurn, h]

theorem nextTurn_of_rx {bs : List Byte} (h : s.script = .rx bs :: es) :
    nextTurn s = .environment (appendRx bs { s with script := es }) := by
  rw [nextTurn, h]

theorem nextTurn_of_nil (h : s.script = []) :
    nextTurn s =
      .unit (takeSample (Config.freeNow s.draws) (appendRx (Config.freeRx s.draws) { s with draws := s.draws + 1 })) := by
  rw [nextTurn, h]

end

/-- What can come next: the environment resets the unit or sends bytes, or the unit iterates on a sample of an event or
on free inputs. -/
theorem nextTurn_cases (s : State) :
    (∃ es, nextTurn s = .environment (resetUnit { s with script := es })) ∨
    (∃ bs es, nextTurn s = .environment (appendRx bs { s with script := es })) ∨
    (∃ n es, nextTurn s = .unit (takeSample n { s with script := es })) ∨
    ∃ n bs, nextTurn s = .unit (takeSample n (appendRx bs { s with draws := s.draws + 1 })) := by
  match h : s.script with
  | .reset :: es => exact .inl ⟨es, nextTurn_of_reset h⟩
  | .rx bs :: es => exact .inr (.inl ⟨bs, es, nextTurn_of_rx h⟩)
  | .iter n :: es => exact .inr (.inr (.inl ⟨n, es, nextTurn_of_iter h⟩))
  | [] => exact .inr (.inr (.inr ⟨Config.freeNow s.draws, Config.freeRx s.draws, by rw [nextTurn_of_nil h, h]⟩))

theorem takeSample_of_variant1 {s : State} (t : Nat) (hv : s.cfg.hasHb = false) : takeSample t s = s := by
  simp [takeSample, hv]

theorem takeSample_of_variant2 {s : State} (t : Nat) (hv : s.cfg.hasHb = true) :
    takeSample t s = { s with now := t % 2 ^ s.cfg.timeW } := by
  simp [takeSample, hv]

/-- Settles O50: the turn of each event, and a sample that is taken in variant 2 only. -/
theorem stepIsAnEnvironmentEventOrOneIteration : Obligations.StepIsAnEnvironmentEventOrOneIteration := by
  unfold Obligations.StepIsAnEnvironmentEventOrOneIteration
  intro s es hc
  refine ⟨fun h => ?_, fun bs h => ?_, fun t h hv => ?_, fun t h hv => ?_, fun h hv => ?_, fun h hv => ?_⟩
  · rw [step_of_environment hc (nextTurn_of_reset h)]; rfl
  · rw [step_of_environment hc (nextTurn_of_rx h)]; rfl
  · rw [step_of_unit hc (nextTurn_of_iter h), takeSample_of_variant2 (s := { s with script := es }) t hv]
  · rw [step_of_unit hc (nextTurn_of_iter h), takeSample_of_variant1 (s := { s with script := es }) t hv]
  · rw [step_of_unit hc (nextTurn_of_nil h), takeSample_of_variant2 (s := appendRx _ { s with draws := _ }) _ hv]; rfl
  · rw [step_of_unit hc (nextTurn_of_nil h), takeSample_of_variant1 (s := appendRx _ { s with draws := _ }) _ hv]; rfl

/-! ### The machine runs for ever (R128, R156) -/

/-- An environment event does not write the configuration (R52). -/
theorem nextTurn_environment_cfg {s u : State} (h : nextTurn s = .environment u) : u.cfg = s.cfg := by
  obtain ⟨_, hn⟩ | ⟨_, _, hn⟩ | ⟨_, _, hn⟩ | ⟨_, _, hn⟩ := nextTurn_cases s <;> cases hn.symm.trans h <;> rfl

/-- In a well-formed configuration a step always answers, with the same configuration. -/
theorem step_answers {s : State} (hc : s.cfg.wf = true) : ∃ t, step s = .next t ∧ t.cfg = s.cfg := by
  cases hn : nextTurn s with
  | environment u => exact ⟨u, step_of_environment hc hn, nextTurn_environment_cfg hn⟩
  | unit u =>
    have hu : u.cfg = s.cfg := (nextTurn_unit_frame hn).1
    obtain ⟨t, hexec, ht, -⟩ := exec_loopIter_group (hu ▸ hc)
    exact ⟨t, (step_of_unit hc hn).trans hexec, ht.trans hu⟩

theorem run_succ {M : Host.Core} {s t : M.State} (n : Nat) (h : M.step s = .next t) : M.run (n + 1) s = M.run n t := by
  rw [Host.Core.run, h]

/-- Settles O52: each step answers in a configuration that is still well-formed. -/
theorem wellFormedMachineNeverStops : Obligations.WellFormedMachineNeverStops := by
  unfold Obligations.WellFormedMachineNeverStops
  intro n
  induction n with
  | zero => exact fun s _ => ⟨s, rfl, rfl⟩
  | succ n ih =>
    intro s hc
    obtain ⟨u, hstep, hu⟩ := step_answers hc
    obtain ⟨t, hrun, ht⟩ := ih u (hu ▸ hc)
    exact ⟨t, (run_succ (M := core) n hstep).trans hrun, ht.trans hu⟩

/-! ### Bytes that arrive while a frame is handled (R126) -/

section
variable {s : State} (bs : List Byte) (h : 8 ≤ s.rxq.length)
include h

theorem dropped_appendRx (r : DiagRecord) (f : Frame) :
    dropped r f (appendRx bs s) = appendRx bs (dropped r f s) := by
  rw [dropped, appendRx_rxq, List.drop_append_of_le_length h]; rfl

theorem forwarded_appendRx (f : Frame) : forwarded f (appendRx bs s) = appendRx bs (forwarded f s) := by
  rw [forwarded, appendRx_rxq, List.drop_append_of_le_length h]; rfl

/-- With a whole group waiting, `RELAY` does not look at what stands behind it in `RXQ`. -/
theorem relay_appendRx {t : State} {o : RelayOutcome} (hr : relay s = .ended o t) :
    relay (appendRx bs s) = .ended o (appendRx bs t) := by
  obtain ⟨hshort, -⟩ | ⟨f, hf, hgroup⟩ := relay_cases s
  · exact absurd h (Nat.not_le.mpr hshort)
  · have hf' : (appendRx bs s).rxq = f.toBytes ++ (s.rxq.drop 8 ++ bs) := by
      rw [appendRx_rxq, ← List.append_assoc, ← hf]
    obtain ⟨hv, he⟩ | ⟨hv, hd, he⟩ | ⟨hv, hd, he⟩ := hgroup <;> cases he.symm.trans hr
    · rw [relay_of_invalid hf' hv, dropped_appendRx bs h]
    · rw [relay_of_foreign hf' hv hd, dropped_appendRx bs h]
    · rw [relay_of_local hf' hv hd, forwarded_appendRx bs h]

end

/-- `HEARTBEAT` does not look at `RXQ`. -/
theorem heartbeat_appendRx {s t : State} {o : HbOutcome} (bs : List Byte) (h : heartbeat s = .ended o t) :
    heartbeat (appendRx bs s) = .ended o (appendRx bs t) := by
  obtain ⟨hdue, hh⟩ | ⟨hdue, hh⟩ := heartbeat_cases s <;> cases hh.symm.trans h
  · exact heartbeat_of_not_due (s := appendRx bs s) hdue
  · exact heartbeat_of_due (s := appendRx bs s) hdue

theorem iteration_appendRx {s u : State} (bs : List Byte) (hlen : 8 ≤ s.rxq.length) (h : iteration s = .next u) :
    iteration (appendRx bs s) = .next (appendRx bs u) := by
  obtain ⟨o, t, hr⟩ := relay_ends s
  have hr' := relay_appendRx bs hlen hr
  cases hv : t.cfg.hasHb with
  | false =>
    cases (iteration_of_variant1 hr hv).symm.trans h
    exact iteration_of_variant1 hr' hv
  | true =>
    obtain ⟨o', v, hh⟩ := heartbeat_ends t
    cases (iteration_of_variant2 hr hv hh).symm.trans h
    exact iteration_of_variant2 hr' hv (heartbeat_appendRx bs hh)

/-- Settles O46: neither half of the iteration looks at the bytes appended. -/
theorem bytesArrivingDuringAnIterationWait : Obligations.BytesArrivingDuringAnIterationWait := by
  unfold Obligations.BytesArrivingDuringAnIterationWait
  intro s t bs hlen h
  have hc := wf_of_exec_eq_next h
  rw [exec_loopIter hc] at h
  rw [exec_loopIter (s := appendRx bs s) hc]
  exact iteration_appendRx bs hlen h

end Sys2Proof.Machine
end

section
/-! SUPPORT. The invariant of the machine (spec 43_sequencer R132; 10_state R53): reset meets it, and the environment,
`RELAY` and `HEARTBEAT` keep it. -/

namespace Sys2Proof.Machine

/-- What a log stands for after more records: the later heartbeats are numbered on from the earlier ones. -/
theorem unitsOf_append (c : Config) (k : Nat) (ds es : List DiagRecord) :
    unitsOf c k (ds ++ es) = unitsOf c k ds ++ unitsOf c (k + heartbeatCount ds) es := by
  induction ds generalizing k with
  | nil => rfl
  | cons d ds ih =>
    cases d with
    | forwarded _ | checksumMismatch | notAddressedHere => simp [unitsOf, heartbeatCount, ih]
    | heartbeatSent =>
      have hnext : k + 1 + heartbeatCount ds = k + (heartbeatCount ds + 1) := by omega
      simp [unitsOf, heartbeatCount, ih, hnext]

/-! ### Reset (R160) -/

theorem lastReset_lt_of_wf {c : Config} (h : c.wf = true) : c.lastReset < 2 ^ c.timeW := by
  simp only [Config.wf, Bool.and_eq_true, decide_eq_true_eq] at h
  exact h.2

theorem seqW_ne_zero_of_wf {c : Config} (h : c.wf = true) : c.seqW ≠ 0 :=
  Nat.ne_zero_of_lt (seqW_ge_of_wf h)

theorem unitInv_resetWith {c : Config} (hc : c.wf = true) : UnitInv (State.resetWith c) where
  cfg_wf := hc
  seq_eq := (Nat.mod_eq_of_lt (Nat.one_lt_two_pow (seqW_ne_zero_of_wf hc))).symm
  last_lt := lastReset_lt_of_wf hc
  now_lt := Nat.two_pow_pos c.timeW
  wire := rfl
  forwards := nofun
  variant1 := fun _ => rfl

/-! ### The environment (R129) -/

theorem unitInv_takeSample {s : State} (t : Nat) (h : UnitInv s) : UnitInv (takeSample t s) := by
  cases hv : s.cfg.hasHb with
  | false => rw [takeSample_of_variant1 t hv]; exact h
  | true =>
    rw [takeSample_of_variant2 t hv]
    exact { h with now_lt := Nat.mod_lt t (Nat.two_pow_pos s.cfg.timeW) }

theorem unitInv_of_environment {s u : State} (h : UnitInv s) (henv : nextTurn s = .environment u) : UnitInv u := by
  obtain ⟨_, hn⟩ | ⟨_, _, hn⟩ | ⟨_, _, hn⟩ | ⟨_, _, hn⟩ := nextTurn_cases s <;> cases hn.symm.trans henv
  · exact { unitInv_resetWith h.cfg_wf with }
  · exact { h with }

theorem unitInv_of_unit {s u : State} (h : UnitInv s) (hunit : nextTurn s = .unit u) : UnitInv u := by
  obtain ⟨_, hn⟩ | ⟨_, _, hn⟩ | ⟨_, _, hn⟩ | ⟨_, _, hn⟩ := nextTurn_cases s <;> cases hn.symm.trans hunit
  · exact unitInv_takeSample _ { h with }
  · exact unitInv_takeSample _ { h with }

/-! ### `RELAY` (R97, R98, R102 (c)) -/

/-- `RELAY` writes to the wire exactly what its record of the group stands for. -/
theorem relay_txlog_eq {s t : State} {o : RelayOutcome} (k : Nat) (h : relay s = .ended o t) :
    t.txlog = s.txlog ++ unitsOf s.cfg k (relayRecord s.cfg s.rxq) := by
  obtain ⟨hlen, hr⟩ | ⟨f, hf, ⟨hv, hr⟩ | ⟨hv, hd, hr⟩ | ⟨hv, hd, hr⟩⟩ := relay_cases s <;> cases hr.symm.trans h
  · rw [relayRecord_of_short _ hlen]; simp [unitsOf]
  · rw [hf, relayRecord_of_frame]; simp [dropped, unitsOf, hv]
  · rw [hf, relayRecord_of_frame]; simp [dropped, unitsOf, hv, hd]
  · rw [hf, relayRecord_of_frame]; simp [forwarded, unitsOf, hv, hd]

theorem sendable_stamped {c : Config} {f : Frame} (hc : c.wf = true) (hd : f.dst = c.localId) :
    sendable c (stamped c f) = true := by
  have hsrc : (stamped c f).src = c.localId := rfl
  have hdst : (stamped c f).dst = c.localId := hd
  have hpath := getLsbD_path_stamped hc f (c.localId.toNat - 1)
  simp [sendable, hsrc, hdst, hpath]

/-- The frame of a forwarding record is the stamped one. -/
theorem sendable_of_mem_relayRecord {c : Config} {bs : List Byte} {g : Frame} (hc : c.wf = true)
    (h : .forwarded g ∈ relayRecord c bs) : sendable c g = true := by
  unfold relayRecord at h
  split at h
  · split at h
    · split at h <;> rename_i hd
      · cases List.mem_singleton.mp h
        exact sendable_stamped hc hd
      · cases List.mem_singleton.mp h
    · cases List.mem_singleton.mp h
  · cases h

theorem relay_keeps_unitInv {s t : State} {o : RelayOutcome} (h : UnitInv s) (hr : relay s = .ended o t) :
    UnitInv t := by
  obtain ⟨hcfg, hseq, hlast, hnow, -⟩ := relay_frame hr
  have hcount := relay_keeps_heartbeatCount hr
  have hdiag := relay_diaglog_eq hr
  constructor
  case cfg_wf => rw [hcfg]; exact h.cfg_wf
  case seq_eq => rw [hseq, hcount, hcfg]; exact h.seq_eq
  case last_lt => rw [hlast, hcfg]; exact h.last_lt
  case now_lt => rw [hnow, hcfg]; exact h.now_lt
  case wire => rw [relay_txlog_eq _ hr, hdiag, hcfg, unitsOf_append, ← h.wire]
  case forwards =>
    intro f hf
    rw [hdiag, List.mem_append] at hf
    rw [hcfg]
    exact hf.elim (h.forwards f) (sendable_of_mem_relayRecord h.cfg_wf)
  case variant1 => rw [hcfg, hcount]; exact h.variant1

/-! ### `HEARTBEAT` (R114, R120) -/

/-- The next heartbeat is built from the number after those reported, whatever the width of `SEQ`. -/
theorem heartbeatFrame_seq {s : State} (h : UnitInv s) :
    heartbeatFrame s.cfg s.seq = heartbeatFrame s.cfg (1 + heartbeatCount s.diaglog) := by
  have hlow : idByte s.seq = idByte (1 + heartbeatCount s.diaglog) := by
    rw [h.seq_eq, Nat.add_comm 1]
    exact idByte_nextSeq (seqW_ge_of_wf h.cfg_wf) _
  exact heartbeatFrame_congr s.cfg s.cfg.seqW hlow

theorem unitInv_emitted {s : State} (n : Nat) (h : UnitInv s) (hv : s.cfg.hasHb = true) : UnitInv (emitted n s) where
  cfg_wf := h.cfg_wf
  seq_eq := by
    rw [heartbeatCount_emitted]
    calc nextSeq s.cfg.seqW s.seq = ((1 + heartbeatCount s.diaglog) % 2 ^ s.cfg.seqW + 1) % 2 ^ s.cfg.seqW := by
          rw [nextSeq, h.seq_eq]
      _ = (1 + (heartbeatCount s.diaglog + 1)) % 2 ^ s.cfg.seqW := by rw [Nat.mod_add_mod, Nat.add_assoc]
  last_lt := Nat.mod_lt n (Nat.two_pow_pos s.cfg.timeW)
  now_lt := h.now_lt
  wire := by
    have hdiag : (emitted n s).diaglog = s.diaglog ++ [.heartbeatSent] := rfl
    have hcfg : (emitted n s).cfg = s.cfg := rfl
    rw [emitted_txlog, hdiag, hcfg, unitsOf_append, ← h.wire, heartbeatFrame_seq h]; rfl
  forwards := by
    intro f hf
    obtain hf | hf := List.mem_append.mp hf
    · exact h.forwards f hf
    · cases List.mem_singleton.mp hf
  variant1 := fun hno => absurd (hv.symm.trans hno) nofun

theorem heartbeat_keeps_unitInv {s t : State} {o : HbOutcome} (h : UnitInv s) (hv : s.cfg.hasHb = true)
    (hh : heartbeat s = .ended o t) : UnitInv t := by
  obtain ⟨-, he⟩ | ⟨-, he⟩ := heartbeat_cases s <;> cases he.symm.trans hh
  · exact h
  · exact unitInv_emitted s.now h hv

/-! ### The step -/

theorem iteration_keeps_unitInv {s u : State} (h : UnitInv s) (hi : iteration s = .next u) : UnitInv u := by
  obtain ⟨o, t, hr⟩ := relay_ends s
  have ht := relay_keeps_unitInv h hr
  cases hv : t.cfg.hasHb with
  | false =>
    cases (iteration_of_variant1 hr hv).symm.trans hi
    exact ht
  | true =>
    obtain ⟨o', v, hh⟩ := heartbeat_ends t
    cases (iteration_of_variant2 hr hv hh).symm.trans hi
    exact heartbeat_keeps_unitInv ht hv hh

/-- Settles O56: the environment's part of the step keeps the invariant, and so does the iteration after it. -/
theorem everyStepKeepsTheInvariant : Obligations.EveryStepKeepsTheInvariant := by
  unfold Obligations.EveryStepKeepsTheInvariant
  intro s t h hstep
  obtain ⟨-, henv | ⟨u, hunit, hexec⟩⟩ := step_eq_next hstep
  · exact unitInv_of_environment h henv
  · have hu := unitInv_of_unit h hunit
    rw [exec_loopIter hu.cfg_wf] at hexec
    exact iteration_keeps_unitInv hu hexec

end Sys2Proof.Machine
end

section
/-! SUPPORT. The two operations of an iteration (spec 43_sequencer R125; 60_exceptions R145): no end of `RELAY` keeps the
loop from the second one. -/

namespace Sys2Proof.Machine

/-- What follows `RELAY` in an iteration starts from the state `RELAY` answered, in the variant of the unit (R125). -/
theorem exec_loopIter_of_relay {s t : State} (hc : s.cfg.wf = true) (hr : exec .relay s = .next t) :
    exec .loopIter s = if t.cfg.hasHb = true then exec .heartbeat t else .next t := by
  rw [exec_loopIter_eq_afterwards hc, hr, afterwards_next]

/-- Settles O44: `RELAY` always ends and keeps the configuration, and in variant 2 `HEARTBEAT` ends as well. -/
theorem loopIterIsRelayThenHeartbeat : Obligations.LoopIterIsRelayThenHeartbeat := by
  unfold Obligations.LoopIterIsRelayThenHeartbeat
  intro s hc
  obtain ⟨o, t, hr⟩ := relay_ends s
  have hcfg : t.cfg = s.cfg := (relay_frame hr).1
  have hrelay : exec .relay s = .next t := by rw [exec_relay hc, hr, answer_ended]
  have hloop := exec_loopIter_of_relay hc hrelay
  rw [hcfg] at hloop
  cases hv : s.cfg.hasHb with
  | false => exact ⟨t, t, hrelay, by rw [hloop, hv]; rfl, nofun, fun _ => rfl⟩
  | true =>
    obtain ⟨o', u, hh⟩ := heartbeat_ends t
    have hbeat : exec .heartbeat t = .next u := by
      rw [exec_heartbeat (hcfg ▸ hc) (hcfg ▸ hv), hh, answer_ended]
    exact ⟨t, u, hrelay, by rw [hloop, if_pos hv, hbeat], fun _ => hbeat, nofun⟩

end Sys2Proof.Machine
end

section
/-! SUPPORT. Ill-formed configurations (spec 30_encoding R68; 70_reset_and_hazards R163 (a); log 9): every meaning begins with
the check of the configuration, directly or through the check of the variant, and so does the step. -/

namespace Sys2Proof.Machine

theorem onOriginator_of_not_wf {s : State} {k} (h : s.cfg.wf = false) :
    onOriginator s k = .refused .illFormedConfig := onUnit_of_not_wf h

/-- The check of the configuration comes before whatever the operation goes on to do. -/
theorem exec_of_not_wf {s : State} (h : s.cfg.wf = false) (i : Instr) : exec i s = .refused .illFormedConfig := by
  cases i with
  | crc8Round | crc8Byte _ | crc8Buf _ | crc8Frame =>
    simp only [exec, execCrc8Round, execCrc8Byte, execCrc8Buf, execCrc8Frame, onUnit_of_not_wf h]
  | rxPoll | rxAssemble | chkVerify | dstMatch | pathStamp | srcStamp | chkStamp | txFwd | diagFwd | relay =>
    simp only [exec, execRxPoll, execRxAssemble, execChkVerify, execDstMatch, execPathStamp, execSrcStamp, execChkStamp,
      execTxFwd, execDiagFwd, execRelay, onUnit_of_not_wf h]
  | relayIdle | relayDropChk _ | relayDropDst _ | relayFwd _ =>
    simp only [exec, execRelayIdle, execRelayDropChk, execRelayDropDst, execRelayFwd, onUnit_of_not_wf h]
  | hbCheck | hbBuild | hbTx | hbAdvance _ | hbDiag | heartbeat | hbIdle | hbEmit =>
    simp only [exec, execHbCheck, execHbBuild, execHbTx, execHbAdvance, execHbDiag, execHeartbeat, execHbIdle, execHbEmit,
      onOriginator_of_not_wf h]
  | loopIter => simp only [exec, execLoopIter, onUnit_of_not_wf h]

theorem step_of_not_wf {s : State} (h : s.cfg.wf = false) : step s = .refused .illFormedConfig := by
  simp [step, h]

theorem not_wf_of_no_node {c : Config} (h : c.localId.toNat = 0 ∨ 8 ≤ c.localId.toNat) : c.wf = false := by
  by_contra hc
  obtain ⟨hlow, hhigh⟩ := Config.localId_bounds (eq_true_of_ne_false hc)
  omega

/-- Settles O53: the check stands before the step and before every operation, and it admits the identifiers 1 to 7
only. -/
theorem illFormedConfigurationIsRefused : Obligations.IllFormedConfigurationIsRefused := by
  unfold Obligations.IllFormedConfigurationIsRefused
  exact ⟨fun _ h => ⟨step_of_not_wf h, exec_of_not_wf h⟩, fun _ => not_wf_of_no_node⟩

end Sys2Proof.Machine
end

section
/-! SUPPORT. The algebra of the checksum (spec 40_crc8 R86): rounds are linear over XOR and can be undone, so absorbing a
byte is linear in accumulator and byte together, and injective in either. -/

namespace Sys2Proof

theorem xor_xor_xor_cancel (x y c : Byte) : (x ^^^ c) ^^^ (y ^^^ c) = x ^^^ y := by
  have hswap : (x ^^^ c) ^^^ (y ^^^ c) = (x ^^^ y) ^^^ (c ^^^ c) := by ac_rfl
  rw [hswap, BitVec.xor_self, BitVec.xor_zero]

/-- A round is a shift, and the generator when bit 7 leaves: both are linear (R80). -/
theorem crcRound_xor (a b : Byte) : crcRound (a ^^^ b) = crcRound a ^^^ crcRound b := by
  unfold crcRound
  rw [BitVec.getLsbD_xor, BitVec.shiftLeft_xor_distrib]
  cases a.getLsbD 7 <;> cases b.getLsbD 7
  · rfl
  · exact BitVec.xor_assoc ..
  · change a <<< 1 ^^^ b <<< 1 ^^^ 0x07#8 = a <<< 1 ^^^ 0x07#8 ^^^ b <<< 1
    ac_rfl
  · exact (xor_xor_xor_cancel ..).symm

theorem iterate_crcRound_xor (n : Nat) (a b : Byte) :
    crcRound^[n] (a ^^^ b) = crcRound^[n] a ^^^ crcRound^[n] b :=
  Function.Semiconj₂.iterate (op := fun x y => x ^^^ y) crcRound_xor n a b

theorem crcByte_xor (a c b d : Byte) : crcByte (a ^^^ c) (b ^^^ d) = crcByte a b ^^^ crcByte c d := by
  have hswap : (a ^^^ c) ^^^ (b ^^^ d) = (a ^^^ b) ^^^ (c ^^^ d) := by ac_rfl
  rw [crcByte_eq_iterate, crcByte_eq_iterate, crcByte_eq_iterate, hswap, iterate_crcRound_xor]

/-- Accumulator and byte enter a step only through their XOR (R81). -/
theorem crcByte_congr {a b c d : Byte} (h : a ^^^ b = c ^^^ d) : crcByte a b = crcByte c d := by
  rw [crcByte, crcByte, h]

theorem crcByte_comm (a b : Byte) : crcByte a b = crcByte b a := crcByte_congr (BitVec.xor_comm a b)

@[simp] theorem crcByte_self (a : Byte) : crcByte a a = 0x00#8 := by
  have hzero : a ^^^ a = 0x00#8 ^^^ 0x00#8 := BitVec.xor_self
  rw [crcByte_congr hzero, crcByte_zero_zero]

/-- Only the byte equal to the accumulator clears it. -/
theorem crcByte_eq_zero_iff {a b : Byte} : crcByte a b = 0x00#8 ↔ b = a := by
  rw [← crcByte_self a]
  exact (crcByte_injective a).eq_iff

theorem crcFrom_injective (l : List Byte) : Function.Injective (fun a => crcFrom a l) := by
  induction l with
  | nil => exact Function.injective_id
  | cons b l ih =>
    intro a c h
    refine crcByte_injective b ?_
    rw [crcByte_comm b a, crcByte_comm b c]
    exact ih h

theorem crcFrom_zipWith_xor {l m : List Byte} (h : l.length = m.length) (a c : Byte) :
    crcFrom (a ^^^ c) (List.zipWith (fun x y => x ^^^ y) l m) = crcFrom a l ^^^ crcFrom c m := by
  induction l generalizing m a c with
  | nil =>
    obtain rfl := List.length_eq_zero_iff.mp h.symm
    rfl
  | cons b l ih =>
    cases m with
    | nil => cases h
    | cons d m => rw [List.zipWith_cons_cons, crcFrom_cons, crcByte_xor, ih (Nat.succ.inj h), crcFrom_cons, crcFrom_cons]

theorem crcBuf_append_singleton (l : List Byte) (b : Byte) : crcBuf (l ++ [b]) = crcByte (crcBuf l) b :=
  crcFrom_append 0x00#8 l [b]

/-- The eight bytes of a frame, CHK included, have checksum zero exactly when it is valid. -/
theorem Frame.valid_iff_crcBuf_toBytes (f : Frame) : f.valid = true ↔ crcBuf f.toBytes = 0x00#8 := by
  rw [f.valid_iff, f.toBytes_eq_header, crcBuf_append_singleton, crcByte_eq_zero_iff]

/-- A change of one byte, whatever it is, shows in the checksum: the steps before it agree, its own step and the ones
after it are injective. -/
theorem crcFrom_modify_ne {g : Byte → Byte} (hg : ∀ b, g b ≠ b) (a : Byte) {l : List Byte} {i : Nat}
    (hi : i < l.length) : crcFrom a (l.modify i g) ≠ crcFrom a l := by
  induction l generalizing a i with
  | nil => cases hi
  | cons b l ih =>
    cases i with
    | zero => exact fun h => hg b (crcByte_injective a (crcFrom_injective l h))
    | succ i => exact ih (crcByte a b) (Nat.lt_of_succ_lt_succ hi)

/-- Flipping a bit changes the byte. -/
theorem xor_bit_ne {k : Nat} (hk : k < 8) (b : Byte) : b ^^^ (1#8 <<< k) ≠ b := by
  intro h
  have hbit : (1#8 <<< k).getLsbD k = true := by simp [hk]
  have hzero : 1#8 <<< k = 0#8 := (BitVec.xor_right_inj b).mp (h.trans BitVec.xor_zero.symm)
  rw [hzero] at hbit
  exact absurd hbit (by simp)

/-- Settles O6: an accumulator of zero lets the byte through, and zero bytes keep it at zero. -/
theorem crcHasTableFormAndIgnoresLeadingZeros : Obligations.CrcHasTableFormAndIgnoresLeadingZeros := by
  unfold Obligations.CrcHasTableFormAndIgnoresLeadingZeros
  refine ⟨fun a b => crcByte_congr BitVec.zero_xor.symm, fun n l => ?_⟩
  have hzeros := crcBuf_replicate_zero n
  rw [crcBuf] at hzeros
  rw [crcBuf, crcFrom_append, hzeros, crcBuf]

/-- Settles O7: every step is linear, and both lists start from zero. -/
theorem crcIsLinear : Obligations.CrcIsLinear := by
  unfold Obligations.CrcIsLinear
  intro l m h
  exact crcFrom_zipWith_xor h 0x00#8 0x00#8

/-- Settles O8: the checksum is the one byte that clears the accumulator when absorbed last. -/
theorem crcOfSealedListIsZero : Obligations.CrcOfSealedListIsZero := by
  unfold Obligations.CrcOfSealedListIsZero
  refine ⟨fun l => ?_, Frame.valid_iff_crcBuf_toBytes⟩
  rw [crcBuf_append_singleton, crcByte_self]

/-- Settles O9: a flipped bit is a changed byte. -/
theorem crcDetectsEverySingleBit : Obligations.CrcDetectsEverySingleBit := by
  unfold Obligations.CrcDetectsEverySingleBit
  intro l i k hl hi hk
  exact crcFrom_modify_ne (xor_bit_ne hk) 0x00#8 (hl ▸ hi)

/-- The generator pattern: what 0x01 puts into the accumulator, 0x07 takes out with the next byte. -/
theorem crcFrom_generator (a x y : Byte) : crcFrom a [x ^^^ 0x01#8, y ^^^ 0x07#8] = crcFrom a [x, y] := by
  have hfirst : crcByte a (x ^^^ 0x01#8) = crcByte a x ^^^ 0x07#8 := by
    have h := crcByte_xor a 0x00#8 x 0x01#8
    rwa [BitVec.xor_zero] at h
  calc crcFrom a [x ^^^ 0x01#8, y ^^^ 0x07#8] = crcByte (crcByte a x ^^^ 0x07#8) (y ^^^ 0x07#8) := by
        rw [← hfirst]; rfl
    _ = crcFrom a [x, y] := crcByte_congr (xor_xor_xor_cancel ..)

/-- Settles O10: the pattern stands on the last two bytes absorbed. -/
theorem crcMissesGeneratorPattern : Obligations.CrcMissesGeneratorPattern := by
  unfold Obligations.CrcMissesGeneratorPattern
  intro b0 b1 b2 b3 b4 b5 b6
  exact crcFrom_generator (crcBuf [b0, b1, b2, b3, b4]) b5 b6

/-- Settles O5: the 256 accumulator values, checked one by one. -/
theorem zeroByteFixesOnlyZeroAndFd : Obligations.ZeroByteFixesOnlyZeroAndFd := by
  unfold Obligations.ZeroByteFixesOnlyZeroAndFd
  decide

end Sys2Proof
end

section
/-! SUPPORT. The polynomial reading of the checksum (spec 40_crc8 R85): modulo the generator, a round multiplies by X, and
absorbing a byte adds its polynomial and multiplies by X^8. -/

namespace Sys2Proof.Claim

open Polynomial

/-- The generator x^8 + x^2 + x + 1. -/
noncomputable def generator : (ZMod 2)[X] := X ^ 8 + X ^ 2 + X + 1

/-- A byte's polynomial modulo the generator. -/
noncomputable def byteClass (b : Byte) : AdjoinRoot generator := AdjoinRoot.mk generator (bytePoly b)

/-! ### Bytes as polynomials -/

theorem degree_generator : generator.degree = 8 := by
  unfold generator
  compute_degree!

theorem monic_generator : generator.Monic := by
  unfold generator
  monicity!

theorem degree_bytePoly_lt (b : Byte) : (bytePoly b).degree < 8 := by
  have hterm (k : Nat) (hk : k ∈ Finset.range 8) :
      (if b.getLsbD k = true then X ^ k else 0 : (ZMod 2)[X]) ∈ degreeLT (ZMod 2) 8 := by
    split
    · rw [mem_degreeLT, degree_X_pow]
      exact Nat.cast_lt.mpr (Finset.mem_range.mp hk)
    · exact Submodule.zero_mem _
  exact mem_degreeLT.mp (Submodule.sum_mem _ hterm)

/-- Bits add without carry, as coefficients modulo 2 do. -/
theorem bytePoly_xor (a b : Byte) : bytePoly (a ^^^ b) = bytePoly a + bytePoly b := by
  unfold bytePoly
  rw [← Finset.sum_add_distrib]
  refine Finset.sum_congr rfl fun k _ => ?_
  rw [BitVec.getLsbD_xor]
  cases a.getLsbD k <;> cases b.getLsbD k <;> simp [CharTwo.add_self_eq_zero]

/-- A shift multiplies by X, and what leaves at bit 7 is the power X^8. -/
theorem bytePoly_shiftLeft (a : Byte) :
    bytePoly (a <<< 1) + (if a.getLsbD 7 = true then X ^ 8 else 0) = X * bytePoly a := by
  have hbit (k : Nat) (hk : k ∈ Finset.range 7) :
      (if (a <<< 1).getLsbD (k + 1) = true then X ^ (k + 1) else 0 : (ZMod 2)[X]) =
        X * if a.getLsbD k = true then X ^ k else 0 := by
    have hshift : (a <<< 1).getLsbD (k + 1) = a.getLsbD k := by
      have hk8 : k + 1 < 8 := Nat.succ_lt_succ (Finset.mem_range.mp hk)
      rw [BitVec.getLsbD_shiftLeft]
      simp [hk8]
    rw [hshift, mul_ite, mul_zero, pow_succ']
  have hlow : ¬ (a <<< 1).getLsbD 0 = true := by simp
  rw [bytePoly, bytePoly, Finset.sum_range_succ', Finset.sum_range_succ _ 7, if_neg hlow, add_zero, mul_add,
    Finset.mul_sum, Finset.sum_congr rfl hbit, mul_ite, mul_zero, ← pow_succ']

/-! ### Modulo the generator -/

theorem byteClass_zero : byteClass 0x00#8 = 0 := by simp [byteClass, bytePoly]

theorem byteClass_xor (a b : Byte) : byteClass (a ^^^ b) = byteClass a + byteClass b := by
  rw [byteClass, bytePoly_xor, map_add]; rfl

/-- X^8 is what the generator leaves of it, the constant XORed in by a round. -/
theorem byteClass_seven : byteClass 0x07#8 = AdjoinRoot.root generator ^ 8 := by
  have hseven : bytePoly 0x07#8 = X ^ 8 + generator := by
    calc bytePoly 0x07#8 = 1 + X + X ^ 2 := by simp [bytePoly, Finset.sum_range_succ]
      _ = (X ^ 8 + X ^ 8) + (X ^ 2 + X + 1) := by rw [CharTwo.add_self_eq_zero]; ring
      _ = X ^ 8 + generator := by rw [generator]; ring
  rw [byteClass, hseven, map_add, AdjoinRoot.mk_self, add_zero, map_pow, AdjoinRoot.mk_X]

/-- A round multiplies by X (R80). -/
theorem byteClass_crcRound (a : Byte) : byteClass (crcRound a) = AdjoinRoot.root generator * byteClass a := by
  have hshift := congrArg (AdjoinRoot.mk generator) (bytePoly_shiftLeft a)
  rw [map_add, map_mul, AdjoinRoot.mk_X] at hshift
  rw [crcRound, byteClass, byteClass, ← hshift]
  split
  · rw [← byteClass, byteClass_xor, byteClass_seven, map_pow, AdjoinRoot.mk_X]; rfl
  · rw [map_zero, add_zero]

theorem byteClass_iterate_crcRound (n : Nat) (a : Byte) :
    byteClass (crcRound^[n] a) = AdjoinRoot.root generator ^ n * byteClass a := by
  induction n with
  | zero => rw [pow_zero, one_mul]; rfl
  | succ n ih => rw [Function.iterate_succ_apply', byteClass_crcRound, ih, pow_succ', mul_assoc]

/-- Absorbing a byte adds it and multiplies by X^8 (R81). -/
theorem byteClass_crcByte (a b : Byte) :
    byteClass (crcByte a b) = AdjoinRoot.root generator ^ 8 * (byteClass a + byteClass b) := by
  rw [crcByte_eq_iterate, byteClass_iterate_crcRound, byteClass_xor]

/-- A list moves the accumulator's polynomial up by its length and adds its own times X^8 (R82). -/
theorem byteClass_crcFrom (a : Byte) (l : List Byte) :
    byteClass (crcFrom a l) =
      AdjoinRoot.root generator ^ (8 * l.length) * byteClass a +
        AdjoinRoot.mk generator (messagePoly l * X ^ 8) := by
  induction l generalizing a with
  | nil => simp [messagePoly]
  | cons b l ih =>
    rw [crcFrom_cons, ih, byteClass_crcByte, messagePoly, List.length_cons]
    simp only [map_mul, map_add, map_pow, AdjoinRoot.mk_X, byteClass]
    ring

/-- Settles O11: the checksum's polynomial is of degree below 8, and by the list's reading congruent to the message
times X^8. -/
theorem crcIsPolynomialRemainder : Obligations.CrcIsPolynomialRemainder := by
  unfold Obligations.CrcIsPolynomialRemainder
  intro l
  have hclass : AdjoinRoot.mk generator (messagePoly l * X ^ 8) = AdjoinRoot.mk generator (bytePoly (crcBuf l)) := by
    rw [← byteClass, crcBuf, byteClass_crcFrom, byteClass_zero, mul_zero, zero_add]
  calc (messagePoly l * X ^ 8) %ₘ generator = bytePoly (crcBuf l) %ₘ generator :=
        modByMonic_eq_of_dvd_sub monic_generator (AdjoinRoot.mk_eq_mk.mp hclass)
    _ = bytePoly (crcBuf l) :=
        (modByMonic_eq_self_iff monic_generator).mpr (degree_generator ▸ degree_bytePoly_lt _)

end Sys2Proof.Claim
end

section
/-! SUPPORT. The small operations (spec 40_crc8 R81, R83; 41_relay R92, R95, R96, R98; 42_heartbeat R115), the codes of
60_exceptions R140, the words of the opcode table, and reset (70_reset_and_hazards R160). -/

namespace Sys2Proof.Machine

/-! ### The checksum in `ACC` -/

theorem exec_crc8Byte {s : State} (hc : s.cfg.wf = true) (b : Byte) :
    exec (.crc8Byte b) s = .next { s with acc := crcByte s.acc b } := by
  rw [exec, execCrc8Byte, onUnit_of_wf hc]; rfl

theorem exec_crc8Frame {s : State} (hc : s.cfg.wf = true) :
    exec .crc8Frame s = .next { s with acc := s.f.crc } := by
  rw [exec, execCrc8Frame, onUnit_of_wf hc]; rfl

/-- Settles O2: the step is eight rounds of the XOR, which is zero when the byte is the accumulator. -/
theorem crc8ByteXorsThenRunsEightRounds : Obligations.Crc8ByteXorsThenRunsEightRounds := by
  unfold Obligations.Crc8ByteXorsThenRunsEightRounds
  intro b s hc
  refine ⟨?_, fun h => ?_⟩
  · rw [exec_crc8Byte hc, crcByte_eq_iterate]
  · rw [exec_crc8Byte hc, h, crcByte_self]

/-- Settles O4: the checksum reads the header, in which `F[7]` does not stand. -/
theorem crc8FrameReadsOffsetsZeroToSix : Obligations.Crc8FrameReadsOffsetsZeroToSix := by
  unfold Obligations.Crc8FrameReadsOffsetsZeroToSix
  intro s x hc
  exact exec_crc8Frame (s := { s with f := { s.f with chk := x } }) hc

/-! ### Steps of `RELAY` and `HEARTBEAT` -/

theorem exec_chkVerify {s : State} (hc : s.cfg.wf = true) : exec .chkVerify s = (chkVerify s).answer :=
  onUnit_of_wf (k := fun s => (chkVerify s).answer) hc

/-- Settles O15: a frame with a wrong checksum raises, which is one record after the checksum is in `ACC`. -/
theorem chkVerifyRaisesOnWrongChecksum : Obligations.ChkVerifyRaisesOnWrongChecksum := by
  unfold Obligations.ChkVerifyRaisesOnWrongChecksum
  intro s hc
  refine ⟨fun hk => ?_, fun hk => ?_⟩
  · rw [exec_chkVerify hc, chkVerify_of_valid (s.f.valid_iff.mpr hk)]
    exact ⟨rfl, rfl⟩
  · rw [exec_chkVerify hc, chkVerify_of_invalid (s.f.valid_eq_false_iff.mpr hk), raise_eq]
    exact ⟨rfl, rfl⟩

/-- Settles O18: the two stamps write different bytes of the buffer, neither of which the other reads. -/
theorem srcStampOverwritesSrcInEitherOrder : Obligations.SrcStampOverwritesSrcInEitherOrder := by
  unfold Obligations.SrcStampOverwritesSrcInEitherOrder
  intro s hc
  have hsecondSrc := exec_srcStamp (s := { s with f := { s.f with path := s.f.path ||| pathMask s.cfg.localId } }) hc
  have hsecondPath := exec_pathStamp (s := setFrame { s.f with src := s.cfg.localId } s) hc
  refine ⟨exec_srcStamp hc, ?_⟩
  rw [exec_pathStamp hc, exec_srcStamp hc, afterwards_next, afterwards_next, hsecondSrc, hsecondPath]
  rfl

/-- Settles O19: the buffer is sealed. -/
theorem chkStampMakesFrameValid : Obligations.ChkStampMakesFrameValid := by
  unfold Obligations.ChkStampMakesFrameValid
  intro s hc
  exact ⟨s.f.sealed, exec_chkStamp hc, rfl, s.f.valid_sealed⟩

/-- Settles O21: the record carries the buffer. -/
theorem diagFwdRecordsTheBuffer : Obligations.DiagFwdRecordsTheBuffer := by
  unfold Obligations.DiagFwdRecordsTheBuffer
  intro s hc
  exact exec_diagFwd hc

/-- Settles O38: one record of the heartbeat's kind. -/
theorem hbDiagRecordsTheEmission : Obligations.HbDiagRecordsTheEmission := by
  unfold Obligations.HbDiagRecordsTheEmission
  intro s hc hv
  exact exec_hbDiag hc hv

/-! ### Codes and words -/

/-- Settles O22: the codes by definition, and the error kinds by cases. -/
theorem errorKindsHaveTheirCauseCodes : Obligations.ErrorKindsHaveTheirCauseCodes := by
  unfold Obligations.ErrorKindsHaveTheirCauseCodes
  refine ⟨rfl, rfl, fun e => ?_, fun _ => rfl, rfl, rfl, rfl⟩
  cases e with
  | checksumMismatch => exact .inl rfl
  | notAddressedHere => exact .inr rfl

/-- The byte absorbed is the low byte of its operand pattern `aaaaaaaabbbbbbbb` (R81). -/
theorem decodeTableWord_crc8Byte (acc b : Byte) :
    decodeTableWord 16 (acc.toNat * 256 + b.toNat) = some (.crc8Byte b) := by
  have hlow : BitVec.ofNat 8 (acc.toNat * 256 + b.toNat) = b := by
    apply BitVec.eq_of_toNat_eq
    rw [BitVec.toNat_ofNat, Nat.mul_add_mod_of_lt b.isLt]
  rw [decodeTableWord, hlow]

theorem wf_nominal : Config.nominal.wf = true := by decide

/-- A 64-bit word of the table stands for the outcome its frame selects in the nominal node. -/
theorem decodeTableWord_frame {f : Frame} {w : Nat} {i : Instr} (hw : BitVec.ofNat 64 w = f.toWord)
    (hi : classify Config.nominal f = i) : decodeTableWord 64 w = some i := by
  have hdecode := decode_of_frame f [] wf_nominal
  rw [List.append_nil] at hdecode
  rw [decodeTableWord, hw, f.ofWord_toWord, hdecode, hi]

/-- The checksum of 95_test_vectors 1.1. -/
theorem crcBuf_of_table_frame : crcBuf [0x01, 0x02, 0x03, 0x01, 0x00, 0x00, 0x00] = 0x3D := by
  simp [crcBuf, crcByte, crcRounds, crcRound]

/-- The checksum of 95_test_vectors 2.5, of a frame for node 5. -/
theorem crcBuf_of_foreign_table_frame : crcBuf [0x01, 0x02, 0x05, 0x01, 0x00, 0x00, 0x00] = 0x76 := by
  simp [crcBuf, crcByte, crcRounds, crcRound]

/-- Settles O29: a codec pattern is known by its width, and the three frames are decoded in the nominal node. -/
theorem tableWordsDecodeToTheirRows : Obligations.TableWordsDecodeToTheirRows := by
  unfold Obligations.TableWordsDecodeToTheirRows
  have hlocal : Frame.valid ⟨0x01, 0x02, 0x03, 0x01, 0x00, 0x00, 0x00, 0x3D⟩ = true :=
    (Frame.valid_iff _).mpr crcBuf_of_table_frame.symm
  have hinvalid : Frame.valid ⟨0x01, 0x02, 0x03, 0x01, 0x00, 0x00, 0x00, 0x3C⟩ = false :=
    (Frame.valid_eq_false_iff _).mpr fun h => absurd (h.trans crcBuf_of_table_frame) (by decide)
  have hforeign : Frame.valid ⟨0x01, 0x02, 0x05, 0x01, 0x00, 0x00, 0x00, 0x76⟩ = true :=
    (Frame.valid_iff _).mpr crcBuf_of_foreign_table_frame.symm
  refine ⟨fun acc b f => ⟨rfl, decodeTableWord_crc8Byte acc b, rfl⟩, ?_, ?_, ?_⟩
  · exact decodeTableWord_frame (by decide) (classify_of_local hlocal (by decide))
  · exact decodeTableWord_frame (by decide) (classify_of_invalid _ hinvalid)
  · exact decodeTableWord_frame (by decide) (classify_of_foreign hforeign (by decide))

/-! ### Reset -/

/-- Settles O54: each value is the one reset writes. -/
theorem resetLeavesTheSpecValues : Obligations.ResetLeavesTheSpecValues := by
  unfold Obligations.ResetLeavesTheSpecValues
  exact fun c => ⟨rfl, rfl, rfl, rfl, rfl, rfl, rfl⟩

/-- Settles O55: the nominal configuration is well-formed. -/
theorem resetMeetsTheInvariant : Obligations.ResetMeetsTheInvariant := by
  unfold Obligations.ResetMeetsTheInvariant
  exact ⟨fun c hc => unitInv_resetWith hc, unitInv_resetWith wf_nominal⟩

end Sys2Proof.Machine
end

section
/-! SUPPORT. Outcome rows whose condition is false (spec 30_encoding R72; 60_exceptions R156; logs 7, 8), and the heartbeat's
two rows beside `HEARTBEAT`. -/

namespace Sys2Proof.Machine

/-! ### The rows that `RELAY` does not end with -/

theorem classify_eq_dropChk_iff {c : Config} {f : Frame} : classify c f = .relayDropChk f ↔ f.valid = false := by
  obtain ⟨hv, h⟩ | ⟨hv, -, h⟩ | ⟨hv, -, h⟩ := classify_cases c f <;> simp [h, hv]

theorem classify_eq_dropDst_iff {c : Config} {f : Frame} :
    classify c f = .relayDropDst f ↔ f.valid = true ∧ f.dst ≠ c.localId := by
  obtain ⟨hv, h⟩ | ⟨hv, hd, h⟩ | ⟨hv, hd, h⟩ := classify_cases c f <;> simp [*]

theorem classify_eq_fwd_iff {c : Config} {f : Frame} :
    classify c f = .relayFwd f ↔ f.valid = true ∧ f.dst = c.localId := by
  obtain ⟨hv, h⟩ | ⟨hv, hd, h⟩ | ⟨hv, hd, h⟩ := classify_cases c f <;> simp [*]

theorem classify_ne_relayIdle (c : Config) (f : Frame) : classify c f ≠ .relayIdle := by
  obtain ⟨-, h⟩ | ⟨-, -, h⟩ | ⟨-, -, h⟩ := classify_cases c f <;> rw [h] <;> nofun

theorem onOutcome_false (s : State) : onOutcome false s = .refused .outcomeNotSelected := rfl

section
variable {s : State} {f : Frame} {rest : List Byte} (hc : s.cfg.wf = true) (h : s.rxq = f.toBytes ++ rest)
include hc h

/-- The frame at the head of `RXQ` selects one outcome and no other. -/
theorem selects_of_ne_classify {i : Instr} (hi : classify s.cfg f ≠ i) (r : List Byte) : selects s i r = false := by
  rw [← Bool.not_eq_true, selects_iff, h, decode_of_frame f rest hc]
  exact fun he => hi (Decoded.instr.inj he).1

theorem exec_relayIdle_refused : exec .relayIdle s = .refused .outcomeNotSelected := by
  rw [exec, execRelayIdle, onUnit_of_wf hc, selects_of_ne_classify hc h (classify_ne_relayIdle _ _), onOutcome_false]

theorem exec_relayDropChk_refused (hv : f.valid = true) :
    exec (.relayDropChk f) s = .refused .outcomeNotSelected := by
  have hi : classify s.cfg f ≠ .relayDropChk f := by simp [classify_eq_dropChk_iff, hv]
  rw [exec, execRelayDropChk, onUnit_of_wf hc, selects_of_ne_classify hc h hi, onOutcome_false]

theorem exec_relayDropDst_refused (hcond : f.valid = false ∨ f.dst = s.cfg.localId) :
    exec (.relayDropDst f) s = .refused .outcomeNotSelected := by
  have hi : classify s.cfg f ≠ .relayDropDst f := by
    rw [Ne, classify_eq_dropDst_iff]
    rintro ⟨hv, hd⟩
    exact hcond.elim (fun hv' => absurd (hv.symm.trans hv') nofun) hd
  rw [exec, execRelayDropDst, onUnit_of_wf hc, selects_of_ne_classify hc h hi, onOutcome_false]

theorem exec_relayFwd_refused (hcond : f.valid = false ∨ f.dst ≠ s.cfg.localId) :
    exec (.relayFwd f) s = .refused .outcomeNotSelected := by
  have hi : classify s.cfg f ≠ .relayFwd f := by
    rw [Ne, classify_eq_fwd_iff]
    rintro ⟨hv, hd⟩
    exact hcond.elim (fun hv' => absurd (hv.symm.trans hv') nofun) (fun hd' => hd' hd)
  rw [exec, execRelayFwd, onUnit_of_wf hc, selects_of_ne_classify hc h hi, onOutcome_false]

end

theorem exec_rxAssemble_of_short {s : State} (hc : s.cfg.wf = true) (h : s.rxq.length < 8) :
    exec .rxAssemble s = .fault .rxPopEmpty := by
  rw [exec, execRxAssemble, onUnit_of_wf hc, rxAssemble_of_short h, answer_fault]

/-! ### The rows of `HEARTBEAT` -/

section
variable {s : State} (hc : s.cfg.wf = true) (hv : s.cfg.hasHb = true)
include hc hv

theorem exec_hbIdle : exec .hbIdle s = onOutcome (!hbDue s.now s) s :=
  onOriginator_of_variant2 (k := fun s => onOutcome (!hbDue (nowSample s) s) s) hc hv

theorem exec_hbEmit : exec .hbEmit s = onOutcome (hbDue s.now s) (emitted s.now s) :=
  onOriginator_of_variant2 (k := fun s => onOutcome (hbDue (nowSample s) s) (emitted (nowSample s) s)) hc hv

end

/-- An emitted heartbeat, field by field; for a sample of `TIME_W` bits this is `emitted_eq`. -/
theorem emitted_eq_mod (t : Nat) (s : State) :
    emitted t s =
      { s with f := heartbeatFrame s.cfg s.seq, acc := (heartbeatFrame s.cfg s.seq).chk,
               txlog := s.txlog ++ [(heartbeatFrame s.cfg s.seq).header, [(heartbeatFrame s.cfg s.seq).chk]],
               seq := nextSeq s.cfg.seqW s.seq, last := t % 2 ^ s.cfg.timeW,
               diaglog := s.diaglog ++ [.heartbeatSent] } := by
  rw [emitted, txWrite_txWrite]; rfl

/-- Settles O14: the head of `RXQ` selects another outcome, and the row that `HEARTBEAT` does not end with has its
condition false. -/
theorem stepsOutsideTheSequenceStop : Obligations.StepsOutsideTheSequenceStop := by
  unfold Obligations.StepsOutsideTheSequenceStop
  intro s hc
  refine ⟨exec_rxAssemble_of_short hc, fun hlen => ?_, fun f rest htake => ?_, fun hv => ⟨fun hdue => ?_, fun hdue => ?_⟩⟩
  · obtain ⟨f, hf⟩ := exists_frame_of_length hlen
    exact exec_relayIdle_refused hc hf
  · have h := takeFrame_eq_some.mp htake
    exact ⟨exec_relayDropChk_refused hc h, exec_relayDropDst_refused hc h, exec_relayFwd_refused hc h⟩
  · rw [exec_hbIdle hc hv, hbDue_iff.mpr hdue]; rfl
  · rw [exec_hbEmit hc hv, hbDue_eq_false_iff.mpr (Nat.not_le.mpr hdue)]; rfl

/-- Settles O40: where its condition holds, each row answers the state that `HEARTBEAT` ends with. -/
theorem heartbeatOutcomesHaveTheirEffects : Obligations.HeartbeatOutcomesHaveTheirEffects := by
  unfold Obligations.HeartbeatOutcomesHaveTheirEffects
  intro s hc hv
  refine ⟨fun hdue => ?_, fun hdue => ?_⟩
  · have hnot := Nat.not_le.mpr hdue
    have hidle : exec .hbIdle s = .next s := by rw [exec_hbIdle hc hv, hbDue_eq_false_iff.mpr hnot]; rfl
    exact ⟨hidle, (exec_heartbeat_of_not_due hc hv hnot).trans hidle.symm⟩
  · have hemit : exec .hbEmit s = .next (emitted s.now s) := by rw [exec_hbEmit hc hv, hbDue_iff.mpr hdue]; rfl
    refine ⟨?_, (exec_heartbeat_of_due hc hv hdue).trans hemit.symm⟩
    rw [hemit, emitted_eq_mod]; rfl

end Sys2Proof.Machine
end

section
/-! SUPPORT. A frame that comes back, as sent or with a bit flipped (spec 41_relay R102 (d), (e)). -/

namespace Sys2Proof.Machine

/-- Stamping twice is stamping once: SRC and the PATH bit are there already. -/
theorem stamped_stamped (c : Config) (f : Frame) : stamped c (stamped c f) = stamped c f := by
  have hpath : (stamped c f).path ||| pathMask c.localId = (stamped c f).path := by
    change f.path ||| pathMask c.localId ||| pathMask c.localId = f.path ||| pathMask c.localId
    rw [BitVec.or_assoc, BitVec.or_self]
  rw [stamped, hpath]; rfl

/-- Settles O31: the frame that comes back is valid, still for this node, and stamped already. -/
theorem forwardedFrameIsForwardedUnchanged : Obligations.ForwardedFrameIsForwardedUnchanged := by
  unfold Obligations.ForwardedFrameIsForwardedUnchanged
  intro s f rest hc _ hd h
  rw [exec_relay_of_local hc h (valid_stamped ..) hd, forwarded_eq h, stamped_stamped]

/-- A valid frame is no longer valid when one byte, CHK included, is changed: its eight bytes no longer sum to zero. -/
theorem invalid_of_modified_byte {f g : Frame} {i : Nat} {flip : Byte → Byte} (hf : f.valid = true)
    (hflip : ∀ b, flip b ≠ b) (hi : i < 8) (hg : g.toBytes = f.toBytes.modify i flip) : g.valid = false := by
  rw [← Bool.not_eq_true, g.valid_iff_crcBuf_toBytes, hg, ← f.valid_iff_crcBuf_toBytes.mp hf]
  exact crcFrom_modify_ne hflip 0x00#8 hi

/-- Settles O32: a flipped bit is a changed byte, which makes the frame invalid. -/
theorem oneBitTamperIsDropped : Obligations.OneBitTamperIsDropped := by
  unfold Obligations.OneBitTamperIsDropped
  intro s f g rest i k hc hf hi hk hg h
  have hinvalid := invalid_of_modified_byte hf (xor_bit_ne hk) hi hg
  rw [exec_relay_of_invalid hc h hinvalid, dropped_eq _ h]

end Sys2Proof.Machine
end

section
/-! SUPPORT. What one iteration gives (spec 43_sequencer R127). -/

namespace Sys2Proof.Machine

/-- `RELAY` writes no unit, or the one of a forwarded frame. -/
theorem relay_units {s t : State} {o : RelayOutcome} (h : relay s = .ended o t) :
    ∃ units, t.txlog = s.txlog ++ units ∧ (units.map List.length = [] ∨ units.map List.length = [8]) := by
  obtain ⟨-, hr⟩ | ⟨f, -, ⟨-, hr⟩ | ⟨-, -, hr⟩ | ⟨-, -, hr⟩⟩ := relay_cases s <;> cases hr.symm.trans h
  · exact ⟨[], (List.append_nil _).symm, .inl rfl⟩
  · exact ⟨[], (List.append_nil _).symm, .inl rfl⟩
  · exact ⟨[], (List.append_nil _).symm, .inl rfl⟩
  · exact ⟨[(stamped s.cfg f).toBytes], rfl, .inr rfl⟩

/-- `RELAY` makes at most one record. -/
theorem relay_records {s t : State} {o : RelayOutcome} (h : relay s = .ended o t) :
    ∃ records, t.diaglog = s.diaglog ++ records ∧ records.length ≤ 1 := by
  obtain hd | ⟨r, -, hd⟩ := relay_diaglog h
  · exact ⟨[], by rw [hd, List.append_nil], Nat.zero_le 1⟩
  · exact ⟨[r], hd, Nat.le_refl 1⟩

/-- `HEARTBEAT` writes and records nothing, or the two units and the record of a heartbeat. -/
theorem heartbeat_output {s t : State} {o : HbOutcome} (h : heartbeat s = .ended o t) :
    ∃ units records, t.txlog = s.txlog ++ units ∧ t.diaglog = s.diaglog ++ records ∧
      (units.map List.length = [] ∨ units.map List.length = [7, 1]) ∧ records.length ≤ 1 := by
  obtain ⟨-, hh⟩ | ⟨-, hh⟩ := heartbeat_cases s <;> cases hh.symm.trans h
  · exact ⟨[], [], (List.append_nil _).symm, (List.append_nil _).symm, .inl rfl, Nat.zero_le 1⟩
  · exact ⟨_, [.heartbeatSent], emitted_txlog s.now s, rfl, .inr rfl, Nat.le_refl 1⟩

/-- What an iteration takes and gives is what its `RELAY` takes, and what its two operations give in turn. -/
theorem iteration_output {s u : State} (h : iteration s = .next u) :
    ∃ units records, u.txlog = s.txlog ++ units ∧ u.diaglog = s.diaglog ++ records ∧
      units.map List.length ∈ [[], [8], [7, 1], [8, 7, 1]] ∧ records.length ≤ 2 := by
  obtain ⟨o, t, v, hr, hv, hi⟩ := iteration_ends s
  cases hi.symm.trans h
  obtain ⟨units, htx, hunits⟩ := relay_units hr
  obtain ⟨records, hdiag, hrecords⟩ := relay_records hr
  obtain rfl | ⟨o', hh⟩ := hv
  · refine ⟨units, records, htx, hdiag, ?_, by omega⟩
    obtain hu | hu := hunits <;> simp [hu]
  · obtain ⟨units', records', htx', hdiag', hunits', hrecords'⟩ := heartbeat_output hh
    refine ⟨units ++ units', records ++ records', ?_, ?_, ?_, ?_⟩
    · rw [htx', htx, List.append_assoc]
    · rw [hdiag', hdiag, List.append_assoc]
    · rw [List.map_append]
      obtain hu | hu := hunits <;> obtain hu' | hu' := hunits' <;> simp [hu, hu']
    · rw [List.length_append]; omega

/-- Settles O45: the iteration's input is the group at the head of `RXQ`, its output that of its two operations. -/
theorem iterationMovesAtMostOneFrameAndOneHeartbeat : Obligations.IterationMovesAtMostOneFrameAndOneHeartbeat := by
  unfold Obligations.IterationMovesAtMostOneFrameAndOneHeartbeat
  intro s hc
  obtain ⟨u, hu, -, hrxq, -⟩ := exec_loopIter_group hc
  have hi : iteration s = .next u := (exec_loopIter hc).symm.trans hu
  obtain ⟨units, records, htx, hdiag, hunits, hrecords⟩ := iteration_output hi
  refine ⟨u, units, records, hu, ?_, htx, hunits, hdiag, hrecords⟩
  by_cases hlen : s.rxq.length < 8
  · exact .inl ⟨hrxq.trans (if_pos hlen), hlen⟩
  · exact .inr ⟨hrxq.trans (if_neg hlen), Nat.not_lt.mp hlen⟩

end Sys2Proof.Machine
end

section
/-! SUPPORT. The transient registers (spec 10_state R22, R23): a unit beside the same unit with other contents of `F` and
`ACC`. -/

namespace Sys2Proof.Machine

/-- The unit `s` with `F` set to `f` and `ACC` to `a`. -/
def withBuffer (f : Frame) (a : Byte) (s : State) : State := { s with f := f, acc := a }

/-- `RELAY` writes `F` and `ACC` before it looks at them. -/
theorem relay_withBuffer {s t : State} {o : RelayOutcome} (f : Frame) (a : Byte) (h : relay s = .ended o t) :
    ∃ g b, relay (withBuffer f a s) = .ended o (withBuffer g b t) := by
  obtain ⟨hlen, hr⟩ | ⟨f', hf, ⟨hv, hr⟩ | ⟨hv, hd, hr⟩ | ⟨hv, hd, hr⟩⟩ := relay_cases s <;> cases hr.symm.trans h
  · exact ⟨f, a, relay_of_short (s := withBuffer f a s) hlen⟩
  · exact ⟨_, _, relay_of_invalid (s := withBuffer f a s) hf hv⟩
  · exact ⟨_, _, relay_of_foreign (s := withBuffer f a s) hf hv hd⟩
  · exact ⟨_, _, relay_of_local (s := withBuffer f a s) hf hv hd⟩

theorem heartbeat_withBuffer {s t : State} {o : HbOutcome} (f : Frame) (a : Byte) (h : heartbeat s = .ended o t) :
    ∃ g b, heartbeat (withBuffer f a s) = .ended o (withBuffer g b t) := by
  obtain ⟨g, b, hh⟩ := heartbeat_withInput f a s.rxq h
  refine ⟨g, b, hh.trans ?_⟩
  rw [← (heartbeat_extends h).rxq_eq]; rfl

theorem iteration_withBuffer {s u : State} (f : Frame) (a : Byte) (h : iteration s = .next u) :
    ∃ g b, iteration (withBuffer f a s) = .next (withBuffer g b u) := by
  obtain ⟨o, t, hr⟩ := relay_ends s
  obtain ⟨g, b, hr'⟩ := relay_withBuffer f a hr
  cases hv : t.cfg.hasHb with
  | false =>
    cases (iteration_of_variant1 hr hv).symm.trans h
    exact ⟨g, b, iteration_of_variant1 hr' hv⟩
  | true =>
    obtain ⟨o', v, hh⟩ := heartbeat_ends t
    cases (iteration_of_variant2 hr hv hh).symm.trans h
    obtain ⟨g', b', hh'⟩ := heartbeat_withBuffer g b hh
    exact ⟨g', b', iteration_of_variant2 hr' hv hh'⟩

/-! ### The step -/

theorem takeSample_withBuffer (f : Frame) (a : Byte) (t : Nat) (s : State) :
    takeSample t (withBuffer f a s) = withBuffer f a (takeSample t s) := by
  cases hv : s.cfg.hasHb with
  | false => rw [takeSample_of_variant1 t hv, takeSample_of_variant1 (s := withBuffer f a s) t hv]
  | true => rw [takeSample_of_variant2 t hv, takeSample_of_variant2 (s := withBuffer f a s) t hv]; rfl

/-- What comes before an iteration leaves `F` and `ACC` alone. -/
theorem nextTurn_unit_withBuffer {s u : State} (f : Frame) (a : Byte) (h : nextTurn s = .unit u) :
    nextTurn (withBuffer f a s) = .unit (withBuffer f a u) := by
  unfold nextTurn at h ⊢
  split at h <;> rename_i hscript <;> cases h
  · rw [← takeSample_withBuffer]; simp [withBuffer, hscript]
  · rw [← takeSample_withBuffer]; simp [withBuffer, hscript, appendRx]

/-- An environment event leaves `F` and `ACC` alone, or resets them. -/
theorem nextTurn_environment_withBuffer {s u : State} (f : Frame) (a : Byte) (h : nextTurn s = .environment u) :
    ∃ g b, nextTurn (withBuffer f a s) = .environment (withBuffer g b u) := by
  unfold nextTurn at h ⊢
  split at h <;> rename_i hscript <;> cases h
  · exact ⟨Frame.cleared, 0#8, by simp [withBuffer, hscript, resetUnit, State.resetWith]⟩
  · exact ⟨f, a, by simp [withBuffer, hscript, appendRx]⟩

theorem step_withBuffer {s t : State} (f : Frame) (a : Byte) (h : step s = .next t) :
    ∃ g b, step (withBuffer f a s) = .next (withBuffer g b t) := by
  obtain ⟨hc, henv | ⟨u, hunit, hexec⟩⟩ := step_eq_next h
  · obtain ⟨g, b, henv'⟩ := nextTurn_environment_withBuffer f a henv
    exact ⟨g, b, step_of_environment (s := withBuffer f a s) hc henv'⟩
  · have hu := wf_of_exec_eq_next hexec
    rw [exec_loopIter hu] at hexec
    obtain ⟨g, b, hi⟩ := iteration_withBuffer f a hexec
    refine ⟨g, b, ?_⟩
    rw [step_of_unit (s := withBuffer f a s) hc (nextTurn_unit_withBuffer f a hunit),
      exec_loopIter (s := withBuffer f a u) hu]
    exact hi

/-- Settles O60: each of the three takes a unit and a `withBuffer` of it to such a pair. -/
theorem staleBufferAndAccumulatorAreNeverRead : Obligations.StaleBufferAndAccumulatorAreNeverRead := by
  unfold Obligations.StaleBufferAndAccumulatorAreNeverRead
  intro s t f a
  refine ⟨fun h => ?_, fun h => ?_, step_withBuffer f a⟩
  · have hc := wf_of_exec_eq_next h
    obtain ⟨o, u, hr⟩ := relay_ends s
    rw [exec_relay hc, hr] at h
    cases h
    obtain ⟨g, b, hr'⟩ := relay_withBuffer f a hr
    refine ⟨g, b, ?_⟩
    rw [exec_relay (s := { s with f := f, acc := a }) hc]
    exact congrArg Flow.answer hr'
  · have hc := wf_of_exec_eq_next h
    have hv := variant2_of_heartbeat_eq_next h
    obtain ⟨o, u, hh⟩ := heartbeat_ends s
    rw [exec_heartbeat hc hv, hh] at h
    cases h
    obtain ⟨g, b, hh'⟩ := heartbeat_withBuffer f a hh
    refine ⟨g, b, ?_⟩
    rw [exec_heartbeat (s := { s with f := f, acc := a }) hc hv]
    exact congrArg Flow.answer hh'

end Sys2Proof.Machine
end
